-- ==== Sys2Proof/Word.lean ====
section
/-! DEFINITION. The two word types of the SM83 core (00_scope.md R9, R11): bytes of 8 bits, addresses and pairs of 16 bits. -/

namespace Sys2Proof

/-- `u8`: every register cell and memory byte is an unsigned byte (00_scope.md R11). -/
abbrev Byte := BitVec 8

/-- `u16`: SP, PC, the pair views and every address (00_scope.md R9, R11). -/
abbrev Word := BitVec 16

end Sys2Proof
end

