-- ==== Sys2Proof/Decode.lean ====
section
/-! DEFINITION. The decoder and, after it, the encoder (30_encoding.md), with the bit-field, byte-order and sign helpers that
both and the machine use. The decoder works by the fields x, y, z of R69 (R77, R81); the encoder is written from the bytes of
R78, R81 and the row's format (R68). -/

namespace Sys2Proof

/-- `hi ++ lo`: the word with these two bytes (00_scope.md R12). -/
def join (hi lo : Byte) : Word := hi ++ lo

/-- `v[15:8]` (00_scope.md R11). -/
def hiByte (v : Word) : Byte := v.extractLsb' 8 8

/-- `v[7:0]` (00_scope.md R11). -/
def loByte (v : Word) : Byte := v.extractLsb' 0 8

/-- `sext16(b)`: b when b < 128, b + 0xFF00 otherwise (00_scope.md R12). -/
def sext16 (b : Byte) : Word := b.signExtend 16

/-- `zext16(b)` (00_scope.md R12). -/
def zext16 (b : Byte) : Word := b.setWidth 16

/-- The digit of a 3-bit field. -/
def Oct.ofField (n : Nat) : Oct :=
  match n with
  | 0 => .o0
  | 1 => .o1
  | 2 => .o2
  | 3 => .o3
  | 4 => .o4
  | 5 => .o5
  | 6 => .o6
  | _ => .o7

/-- The number a 3-bit field holds. -/
def Oct.value (o : Oct) : Nat :=
  match o with
  | .o0 => 0
  | .o1 => 1
  | .o2 => 2
  | .o3 => 3
  | .o4 => 4
  | .o5 => 5
  | .o6 => 6
  | .o7 => 7

/-- The digit of a 2-bit field. -/
def Quad.ofField (n : Nat) : Quad :=
  match n with
  | 0 => .q0
  | 1 => .q1
  | 2 => .q2
  | _ => .q3

/-- The number a 2-bit field holds. -/
def Quad.value (q : Quad) : Nat :=
  match q with
  | .q0 => 0
  | .q1 => 1
  | .q2 => 2
  | .q3 => 3

/-- Field `x = op[7:6]` (30_encoding.md R69). -/
def fieldX (op : Byte) : Quad := Quad.ofField (op.toNat / 64)

/-- Field `y = op[5:3]` (30_encoding.md R69). -/
def fieldY (op : Byte) : Oct := Oct.ofField (op.toNat / 8 % 8)

/-- Field `z = op[2:0]` (30_encoding.md R69). -/
def fieldZ (op : Byte) : Oct := Oct.ofField (op.toNat % 8)

/-- The opcode byte with these fields (30_encoding.md R69). -/
def opByte (x : Quad) (y z : Oct) : Byte := BitVec.ofNat 8 (x.value * 64 + y.value * 8 + z.value)

/-- CB opcodes 0x00..0x3F: rotate, shift and swap (30_encoding.md R81, x = 0). -/
def decodeRot (y z : Oct) : Instr :=
  match y, z with
  | .o0, .o0 => .rlc_B
  | .o0, .o1 => .rlc_C
  | .o0, .o2 => .rlc_D
  | .o0, .o3 => .rlc_E
  | .o0, .o4 => .rlc_H
  | .o0, .o5 => .rlc_L
  | .o0, .o6 => .rlc_mHL
  | .o0, .o7 => .rlc_A
  | .o1, .o0 => .rrc_B
  | .o1, .o1 => .rrc_C
  | .o1, .o2 => .rrc_D
  | .o1, .o3 => .rrc_E
  | .o1, .o4 => .rrc_H
  | .o1, .o5 => .rrc_L
  | .o1, .o6 => .rrc_mHL
  | .o1, .o7 => .rrc_A
  | .o2, .o0 => .rl_B
  | .o2, .o1 => .rl_C
  | .o2, .o2 => .rl_D
  | .o2, .o3 => .rl_E
  | .o2, .o4 => .rl_H
  | .o2, .o5 => .rl_L
  | .o2, .o6 => .rl_mHL
  | .o2, .o7 => .rl_A
  | .o3, .o0 => .rr_B
  | .o3, .o1 => .rr_C
  | .o3, .o2 => .rr_D
  | .o3, .o3 => .rr_E
  | .o3, .o4 => .rr_H
  | .o3, .o5 => .rr_L
  | .o3, .o6 => .rr_mHL
  | .o3, .o7 => .rr_A
  | .o4, .o0 => .sla_B
  | .o4, .o1 => .sla_C
  | .o4, .o2 => .sla_D
  | .o4, .o3 => .sla_E
  | .o4, .o4 => .sla_H
  | .o4, .o5 => .sla_L
  | .o4, .o6 => .sla_mHL
  | .o4, .o7 => .sla_A
  | .o5, .o0 => .sra_B
  | .o5, .o1 => .sra_C
  | .o5, .o2 => .sra_D
  | .o5, .o3 => .sra_E
  | .o5, .o4 => .sra_H
  | .o5, .o5 => .sra_L
  | .o5, .o6 => .sra_mHL
  | .o5, .o7 => .sra_A
  | .o6, .o0 => .swap_B
  | .o6, .o1 => .swap_C
  | .o6, .o2 => .swap_D
  | .o6, .o3 => .swap_E
  | .o6, .o4 => .swap_H
  | .o6, .o5 => .swap_L
  | .o6, .o6 => .swap_mHL
  | .o6, .o7 => .swap_A
  | .o7, .o0 => .srl_B
  | .o7, .o1 => .srl_C
  | .o7, .o2 => .srl_D
  | .o7, .o3 => .srl_E
  | .o7, .o4 => .srl_H
  | .o7, .o5 => .srl_L
  | .o7, .o6 => .srl_mHL
  | .o7, .o7 => .srl_A

/-- CB opcodes 0x40..0x7F: BIT (30_encoding.md R81, x = 1). -/
def decodeBit (y z : Oct) : Instr :=
  match y, z with
  | .o0, .o0 => .bit_0_B
  | .o0, .o1 => .bit_0_C
  | .o0, .o2 => .bit_0_D
  | .o0, .o3 => .bit_0_E
  | .o0, .o4 => .bit_0_H
  | .o0, .o5 => .bit_0_L
  | .o0, .o6 => .bit_0_mHL
  | .o0, .o7 => .bit_0_A
  | .o1, .o0 => .bit_1_B
  | .o1, .o1 => .bit_1_C
  | .o1, .o2 => .bit_1_D
  | .o1, .o3 => .bit_1_E
  | .o1, .o4 => .bit_1_H
  | .o1, .o5 => .bit_1_L
  | .o1, .o6 => .bit_1_mHL
  | .o1, .o7 => .bit_1_A
  | .o2, .o0 => .bit_2_B
  | .o2, .o1 => .bit_2_C
  | .o2, .o2 => .bit_2_D
  | .o2, .o3 => .bit_2_E
  | .o2, .o4 => .bit_2_H
  | .o2, .o5 => .bit_2_L
  | .o2, .o6 => .bit_2_mHL
  | .o2, .o7 => .bit_2_A
  | .o3, .o0 => .bit_3_B
  | .o3, .o1 => .bit_3_C
  | .o3, .o2 => .bit_3_D
  | .o3, .o3 => .bit_3_E
  | .o3, .o4 => .bit_3_H
  | .o3, .o5 => .bit_3_L
  | .o3, .o6 => .bit_3_mHL
  | .o3, .o7 => .bit_3_A
  | .o4, .o0 => .bit_4_B
  | .o4, .o1 => .bit_4_C
  | .o4, .o2 => .bit_4_D
  | .o4, .o3 => .bit_4_E
  | .o4, .o4 => .bit_4_H
  | .o4, .o5 => .bit_4_L
  | .o4, .o6 => .bit_4_mHL
  | .o4, .o7 => .bit_4_A
  | .o5, .o0 => .bit_5_B
  | .o5, .o1 => .bit_5_C
  | .o5, .o2 => .bit_5_D
  | .o5, .o3 => .bit_5_E
  | .o5, .o4 => .bit_5_H
  | .o5, .o5 => .bit_5_L
  | .o5, .o6 => .bit_5_mHL
  | .o5, .o7 => .bit_5_A
  | .o6, .o0 => .bit_6_B
  | .o6, .o1 => .bit_6_C
  | .o6, .o2 => .bit_6_D
  | .o6, .o3 => .bit_6_E
  | .o6, .o4 => .bit_6_H
  | .o6, .o5 => .bit_6_L
  | .o6, .o6 => .bit_6_mHL
  | .o6, .o7 => .bit_6_A
  | .o7, .o0 => .bit_7_B
  | .o7, .o1 => .bit_7_C
  | .o7, .o2 => .bit_7_D
  | .o7, .o3 => .bit_7_E
  | .o7, .o4 => .bit_7_H
  | .o7, .o5 => .bit_7_L
  | .o7, .o6 => .bit_7_mHL
  | .o7, .o7 => .bit_7_A

/-- CB opcodes 0x80..0xBF: RES (30_encoding.md R81, x = 2). -/
def decodeRes (y z : Oct) : Instr :=
  match y, z with
  | .o0, .o0 => .res_0_B
  | .o0, .o1 => .res_0_C
  | .o0, .o2 => .res_0_D
  | .o0, .o3 => .res_0_E
  | .o0, .o4 => .res_0_H
  | .o0, .o5 => .res_0_L
  | .o0, .o6 => .res_0_mHL
  | .o0, .o7 => .res_0_A
  | .o1, .o0 => .res_1_B
  | .o1, .o1 => .res_1_C
  | .o1, .o2 => .res_1_D
  | .o1, .o3 => .res_1_E
  | .o1, .o4 => .res_1_H
  | .o1, .o5 => .res_1_L
  | .o1, .o6 => .res_1_mHL
  | .o1, .o7 => .res_1_A
  | .o2, .o0 => .res_2_B
  | .o2, .o1 => .res_2_C
  | .o2, .o2 => .res_2_D
  | .o2, .o3 => .res_2_E
  | .o2, .o4 => .res_2_H
  | .o2, .o5 => .res_2_L
  | .o2, .o6 => .res_2_mHL
  | .o2, .o7 => .res_2_A
  | .o3, .o0 => .res_3_B
  | .o3, .o1 => .res_3_C
  | .o3, .o2 => .res_3_D
  | .o3, .o3 => .res_3_E
  | .o3, .o4 => .res_3_H
  | .o3, .o5 => .res_3_L
  | .o3, .o6 => .res_3_mHL
  | .o3, .o7 => .res_3_A
  | .o4, .o0 => .res_4_B
  | .o4, .o1 => .res_4_C
  | .o4, .o2 => .res_4_D
  | .o4, .o3 => .res_4_E
  | .o4, .o4 => .res_4_H
  | .o4, .o5 => .res_4_L
  | .o4, .o6 => .res_4_mHL
  | .o4, .o7 => .res_4_A
  | .o5, .o0 => .res_5_B
  | .o5, .o1 => .res_5_C
  | .o5, .o2 => .res_5_D
  | .o5, .o3 => .res_5_E
  | .o5, .o4 => .res_5_H
  | .o5, .o5 => .res_5_L
  | .o5, .o6 => .res_5_mHL
  | .o5, .o7 => .res_5_A
  | .o6, .o0 => .res_6_B
  | .o6, .o1 => .res_6_C
  | .o6, .o2 => .res_6_D
  | .o6, .o3 => .res_6_E
  | .o6, .o4 => .res_6_H
  | .o6, .o5 => .res_6_L
  | .o6, .o6 => .res_6_mHL
  | .o6, .o7 => .res_6_A
  | .o7, .o0 => .res_7_B
  | .o7, .o1 => .res_7_C
  | .o7, .o2 => .res_7_D
  | .o7, .o3 => .res_7_E
  | .o7, .o4 => .res_7_H
  | .o7, .o5 => .res_7_L
  | .o7, .o6 => .res_7_mHL
  | .o7, .o7 => .res_7_A

/-- CB opcodes 0xC0..0xFF: SET (30_encoding.md R81, x = 3). -/
def decodeSet (y z : Oct) : Instr :=
  match y, z with
  | .o0, .o0 => .set_0_B
  | .o0, .o1 => .set_0_C
  | .o0, .o2 => .set_0_D
  | .o0, .o3 => .set_0_E
  | .o0, .o4 => .set_0_H
  | .o0, .o5 => .set_0_L
  | .o0, .o6 => .set_0_mHL
  | .o0, .o7 => .set_0_A
  | .o1, .o0 => .set_1_B
  | .o1, .o1 => .set_1_C
  | .o1, .o2 => .set_1_D
  | .o1, .o3 => .set_1_E
  | .o1, .o4 => .set_1_H
  | .o1, .o5 => .set_1_L
  | .o1, .o6 => .set_1_mHL
  | .o1, .o7 => .set_1_A
  | .o2, .o0 => .set_2_B
  | .o2, .o1 => .set_2_C
  | .o2, .o2 => .set_2_D
  | .o2, .o3 => .set_2_E
  | .o2, .o4 => .set_2_H
  | .o2, .o5 => .set_2_L
  | .o2, .o6 => .set_2_mHL
  | .o2, .o7 => .set_2_A
  | .o3, .o0 => .set_3_B
  | .o3, .o1 => .set_3_C
  | .o3, .o2 => .set_3_D
  | .o3, .o3 => .set_3_E
  | .o3, .o4 => .set_3_H
  | .o3, .o5 => .set_3_L
  | .o3, .o6 => .set_3_mHL
  | .o3, .o7 => .set_3_A
  | .o4, .o0 => .set_4_B
  | .o4, .o1 => .set_4_C
  | .o4, .o2 => .set_4_D
  | .o4, .o3 => .set_4_E
  | .o4, .o4 => .set_4_H
  | .o4, .o5 => .set_4_L
  | .o4, .o6 => .set_4_mHL
  | .o4, .o7 => .set_4_A
  | .o5, .o0 => .set_5_B
  | .o5, .o1 => .set_5_C
  | .o5, .o2 => .set_5_D
  | .o5, .o3 => .set_5_E
  | .o5, .o4 => .set_5_H
  | .o5, .o5 => .set_5_L
  | .o5, .o6 => .set_5_mHL
  | .o5, .o7 => .set_5_A
  | .o6, .o0 => .set_6_B
  | .o6, .o1 => .set_6_C
  | .o6, .o2 => .set_6_D
  | .o6, .o3 => .set_6_E
  | .o6, .o4 => .set_6_H
  | .o6, .o5 => .set_6_L
  | .o6, .o6 => .set_6_mHL
  | .o6, .o7 => .set_6_A
  | .o7, .o0 => .set_7_B
  | .o7, .o1 => .set_7_C
  | .o7, .o2 => .set_7_D
  | .o7, .o3 => .set_7_E
  | .o7, .o4 => .set_7_H
  | .o7, .o5 => .set_7_L
  | .o7, .o6 => .set_7_mHL
  | .o7, .o7 => .set_7_A

/-- The 0xCB-prefixed instruction of CB opcode `b` (30_encoding.md R81). -/
def decodeCb (b : Byte) : Instr :=
  match fieldX b with
  | .q0 => decodeRot (fieldY b) (fieldZ b)
  | .q1 => decodeBit (fieldY b) (fieldZ b)
  | .q2 => decodeRes (fieldY b) (fieldZ b)
  | .q3 => decodeSet (fieldY b) (fieldZ b)

/-- Main opcodes 0x00..0x3F (30_encoding.md R78). -/
def decodeBlock0 (y z : Oct) (imm8 : Byte) (imm16 : Word) : Instr :=
  match y, z with
  | .o0, .o0 => .nop
  | .o0, .o1 => .ld_BC_d16 imm16
  | .o0, .o2 => .ld_mBC_A
  | .o0, .o3 => .inc_BC
  | .o0, .o4 => .inc_B
  | .o0, .o5 => .dec_B
  | .o0, .o6 => .ld_B_d8 imm8
  | .o0, .o7 => .rlca
  | .o1, .o0 => .ld_ma16_SP imm16
  | .o1, .o1 => .add_HL_BC
  | .o1, .o2 => .ld_A_mBC
  | .o1, .o3 => .dec_BC
  | .o1, .o4 => .inc_C
  | .o1, .o5 => .dec_C
  | .o1, .o6 => .ld_C_d8 imm8
  | .o1, .o7 => .rrca
  | .o2, .o0 => .stop imm8
  | .o2, .o1 => .ld_DE_d16 imm16
  | .o2, .o2 => .ld_mDE_A
  | .o2, .o3 => .inc_DE
  | .o2, .o4 => .inc_D
  | .o2, .o5 => .dec_D
  | .o2, .o6 => .ld_D_d8 imm8
  | .o2, .o7 => .rla
  | .o3, .o0 => .jr imm8
  | .o3, .o1 => .add_HL_DE
  | .o3, .o2 => .ld_A_mDE
  | .o3, .o3 => .dec_DE
  | .o3, .o4 => .inc_E
  | .o3, .o5 => .dec_E
  | .o3, .o6 => .ld_E_d8 imm8
  | .o3, .o7 => .rra
  | .o4, .o0 => .jr_NZ imm8
  | .o4, .o1 => .ld_HL_d16 imm16
  | .o4, .o2 => .ld_mHLi_A
  | .o4, .o3 => .inc_HL
  | .o4, .o4 => .inc_H
  | .o4, .o5 => .dec_H
  | .o4, .o6 => .ld_H_d8 imm8
  | .o4, .o7 => .daa
  | .o5, .o0 => .jr_Z imm8
  | .o5, .o1 => .add_HL_HL
  | .o5, .o2 => .ld_A_mHLi
  | .o5, .o3 => .dec_HL
  | .o5, .o4 => .inc_L
  | .o5, .o5 => .dec_L
  | .o5, .o6 => .ld_L_d8 imm8
  | .o5, .o7 => .cpl
  | .o6, .o0 => .jr_NC imm8
  | .o6, .o1 => .ld_SP_d16 imm16
  | .o6, .o2 => .ld_mHLd_A
  | .o6, .o3 => .inc_SP
  | .o6, .o4 => .inc_mHL
  | .o6, .o5 => .dec_mHL
  | .o6, .o6 => .ld_mHL_d8 imm8
  | .o6, .o7 => .scf
  | .o7, .o0 => .jr_C imm8
  | .o7, .o1 => .add_HL_SP
  | .o7, .o2 => .ld_A_mHLd
  | .o7, .o3 => .dec_SP
  | .o7, .o4 => .inc_A
  | .o7, .o5 => .dec_A
  | .o7, .o6 => .ld_A_d8 imm8
  | .o7, .o7 => .ccf

/-- Main opcodes 0x40..0x7F: the loads and HALT at 0x76 (30_encoding.md R77, R79). -/
def decodeLoads (y z : Oct) : Instr :=
  match y, z with
  | .o0, .o0 => .ld_B_B
  | .o0, .o1 => .ld_B_C
  | .o0, .o2 => .ld_B_D
  | .o0, .o3 => .ld_B_E
  | .o0, .o4 => .ld_B_H
  | .o0, .o5 => .ld_B_L
  | .o0, .o6 => .ld_B_mHL
  | .o0, .o7 => .ld_B_A
  | .o1, .o0 => .ld_C_B
  | .o1, .o1 => .ld_C_C
  | .o1, .o2 => .ld_C_D
  | .o1, .o3 => .ld_C_E
  | .o1, .o4 => .ld_C_H
  | .o1, .o5 => .ld_C_L
  | .o1, .o6 => .ld_C_mHL
  | .o1, .o7 => .ld_C_A
  | .o2, .o0 => .ld_D_B
  | .o2, .o1 => .ld_D_C
  | .o2, .o2 => .ld_D_D
  | .o2, .o3 => .ld_D_E
  | .o2, .o4 => .ld_D_H
  | .o2, .o5 => .ld_D_L
  | .o2, .o6 => .ld_D_mHL
  | .o2, .o7 => .ld_D_A
  | .o3, .o0 => .ld_E_B
  | .o3, .o1 => .ld_E_C
  | .o3, .o2 => .ld_E_D
  | .o3, .o3 => .ld_E_E
  | .o3, .o4 => .ld_E_H
  | .o3, .o5 => .ld_E_L
  | .o3, .o6 => .ld_E_mHL
  | .o3, .o7 => .ld_E_A
  | .o4, .o0 => .ld_H_B
  | .o4, .o1 => .ld_H_C
  | .o4, .o2 => .ld_H_D
  | .o4, .o3 => .ld_H_E
  | .o4, .o4 => .ld_H_H
  | .o4, .o5 => .ld_H_L
  | .o4, .o6 => .ld_H_mHL
  | .o4, .o7 => .ld_H_A
  | .o5, .o0 => .ld_L_B
  | .o5, .o1 => .ld_L_C
  | .o5, .o2 => .ld_L_D
  | .o5, .o3 => .ld_L_E
  | .o5, .o4 => .ld_L_H
  | .o5, .o5 => .ld_L_L
  | .o5, .o6 => .ld_L_mHL
  | .o5, .o7 => .ld_L_A
  | .o6, .o0 => .ld_mHL_B
  | .o6, .o1 => .ld_mHL_C
  | .o6, .o2 => .ld_mHL_D
  | .o6, .o3 => .ld_mHL_E
  | .o6, .o4 => .ld_mHL_H
  | .o6, .o5 => .ld_mHL_L
  | .o6, .o6 => .halt
  | .o6, .o7 => .ld_mHL_A
  | .o7, .o0 => .ld_A_B
  | .o7, .o1 => .ld_A_C
  | .o7, .o2 => .ld_A_D
  | .o7, .o3 => .ld_A_E
  | .o7, .o4 => .ld_A_H
  | .o7, .o5 => .ld_A_L
  | .o7, .o6 => .ld_A_mHL
  | .o7, .o7 => .ld_A_A

/-- Main opcodes 0x80..0xBF: the ALU block (30_encoding.md R80). -/
def decodeAlu (y z : Oct) : Instr :=
  match y, z with
  | .o0, .o0 => .add_A_B
  | .o0, .o1 => .add_A_C
  | .o0, .o2 => .add_A_D
  | .o0, .o3 => .add_A_E
  | .o0, .o4 => .add_A_H
  | .o0, .o5 => .add_A_L
  | .o0, .o6 => .add_A_mHL
  | .o0, .o7 => .add_A_A
  | .o1, .o0 => .adc_A_B
  | .o1, .o1 => .adc_A_C
  | .o1, .o2 => .adc_A_D
  | .o1, .o3 => .adc_A_E
  | .o1, .o4 => .adc_A_H
  | .o1, .o5 => .adc_A_L
  | .o1, .o6 => .adc_A_mHL
  | .o1, .o7 => .adc_A_A
  | .o2, .o0 => .sub_B
  | .o2, .o1 => .sub_C
  | .o2, .o2 => .sub_D
  | .o2, .o3 => .sub_E
  | .o2, .o4 => .sub_H
  | .o2, .o5 => .sub_L
  | .o2, .o6 => .sub_mHL
  | .o2, .o7 => .sub_A
  | .o3, .o0 => .sbc_A_B
  | .o3, .o1 => .sbc_A_C
  | .o3, .o2 => .sbc_A_D
  | .o3, .o3 => .sbc_A_E
  | .o3, .o4 => .sbc_A_H
  | .o3, .o5 => .sbc_A_L
  | .o3, .o6 => .sbc_A_mHL
  | .o3, .o7 => .sbc_A_A
  | .o4, .o0 => .and_B
  | .o4, .o1 => .and_C
  | .o4, .o2 => .and_D
  | .o4, .o3 => .and_E
  | .o4, .o4 => .and_H
  | .o4, .o5 => .and_L
  | .o4, .o6 => .and_mHL
  | .o4, .o7 => .and_A
  | .o5, .o0 => .xor_B
  | .o5, .o1 => .xor_C
  | .o5, .o2 => .xor_D
  | .o5, .o3 => .xor_E
  | .o5, .o4 => .xor_H
  | .o5, .o5 => .xor_L
  | .o5, .o6 => .xor_mHL
  | .o5, .o7 => .xor_A
  | .o6, .o0 => .or_B
  | .o6, .o1 => .or_C
  | .o6, .o2 => .or_D
  | .o6, .o3 => .or_E
  | .o6, .o4 => .or_H
  | .o6, .o5 => .or_L
  | .o6, .o6 => .or_mHL
  | .o6, .o7 => .or_A
  | .o7, .o0 => .cp_B
  | .o7, .o1 => .cp_C
  | .o7, .o2 => .cp_D
  | .o7, .o3 => .cp_E
  | .o7, .o4 => .cp_H
  | .o7, .o5 => .cp_L
  | .o7, .o6 => .cp_mHL
  | .o7, .o7 => .cp_A

/-- Main opcodes 0xC0..0xFF, the prefix and the eleven unused bytes among them (30_encoding.md R78, R83, R84). -/
def decodeBlock3 (y z : Oct) (imm8 : Byte) (imm16 : Word) : Instr :=
  match y, z with
  | .o0, .o0 => .ret_NZ
  | .o0, .o1 => .pop_BC
  | .o0, .o2 => .jp_NZ imm16
  | .o0, .o3 => .jp imm16
  | .o0, .o4 => .call_NZ imm16
  | .o0, .o5 => .push_BC
  | .o0, .o6 => .add_A_d8 imm8
  | .o0, .o7 => .rst_00
  | .o1, .o0 => .ret_Z
  | .o1, .o1 => .ret
  | .o1, .o2 => .jp_Z imm16
  | .o1, .o3 => decodeCb imm8
  | .o1, .o4 => .call_Z imm16
  | .o1, .o5 => .call imm16
  | .o1, .o6 => .adc_A_d8 imm8
  | .o1, .o7 => .rst_08
  | .o2, .o0 => .ret_NC
  | .o2, .o1 => .pop_DE
  | .o2, .o2 => .jp_NC imm16
  | .o2, .o3 => .unused_D3
  | .o2, .o4 => .call_NC imm16
  | .o2, .o5 => .push_DE
  | .o2, .o6 => .sub_d8 imm8
  | .o2, .o7 => .rst_10
  | .o3, .o0 => .ret_C
  | .o3, .o1 => .reti
  | .o3, .o2 => .jp_C imm16
  | .o3, .o3 => .unused_DB
  | .o3, .o4 => .call_C imm16
  | .o3, .o5 => .unused_DD
  | .o3, .o6 => .sbc_A_d8 imm8
  | .o3, .o7 => .rst_18
  | .o4, .o0 => .ldh_ma8_A imm8
  | .o4, .o1 => .pop_HL
  | .o4, .o2 => .ld_mC_A
  | .o4, .o3 => .unused_E3
  | .o4, .o4 => .unused_E4
  | .o4, .o5 => .push_HL
  | .o4, .o6 => .and_d8 imm8
  | .o4, .o7 => .rst_20
  | .o5, .o0 => .add_SP_e8 imm8
  | .o5, .o1 => .jp_HL
  | .o5, .o2 => .ld_ma16_A imm16
  | .o5, .o3 => .unused_EB
  | .o5, .o4 => .unused_EC
  | .o5, .o5 => .unused_ED
  | .o5, .o6 => .xor_d8 imm8
  | .o5, .o7 => .rst_28
  | .o6, .o0 => .ldh_A_ma8 imm8
  | .o6, .o1 => .pop_AF
  | .o6, .o2 => .ld_A_mC
  | .o6, .o3 => .di
  | .o6, .o4 => .unused_F4
  | .o6, .o5 => .push_AF
  | .o6, .o6 => .or_d8 imm8
  | .o6, .o7 => .rst_30
  | .o7, .o0 => .ld_HL_SPe8 imm8
  | .o7, .o1 => .ld_SP_HL
  | .o7, .o2 => .ld_A_ma16 imm16
  | .o7, .o3 => .ei
  | .o7, .o4 => .unused_FC
  | .o7, .o5 => .unused_FD
  | .o7, .o6 => .cp_d8 imm8
  | .o7, .o7 => .rst_38

/-- The instruction at the start of the window `w0 w1 w2` (30_encoding.md R65, R77), total over all bytes. `w1` and `w2` matter
only as far as the instruction's length reaches (20_memory.md R62). -/
def decodeWindow (w0 w1 w2 : Byte) : Instr :=
  match fieldX w0 with
  | .q0 => decodeBlock0 (fieldY w0) (fieldZ w0) w1 (join w2 w1)
  | .q1 => decodeLoads (fieldY w0) (fieldZ w0)
  | .q2 => decodeAlu (fieldY w0) (fieldZ w0)
  | .q3 => decodeBlock3 (fieldY w0) (fieldZ w0) w1 (join w2 w1)

/-- How many bytes the decoder reads for the first byte `op` (30_encoding.md R76). An unused byte is read alone, although its
`size` is 0 (R84). -/
def fetchLength (op : Byte) : Nat :=
  match fieldX op, fieldY op, fieldZ op with
  | .q0, .o1, .o0 => 3                       -- 08
  | .q0, .o0, .o0 => 1                       -- 00
  | .q0, _, .o0 => 2                         -- 10 18 20 28 30 38
  | .q0, .o0, .o1 => 3                       -- 01
  | .q0, .o2, .o1 => 3                       -- 11
  | .q0, .o4, .o1 => 3                       -- 21
  | .q0, .o6, .o1 => 3                       -- 31
  | .q0, _, .o6 => 2                         -- 06 0E 16 1E 26 2E 36 3E
  | .q3, .o4, .o0 => 2                       -- E0
  | .q3, .o5, .o0 => 2                       -- E8
  | .q3, .o6, .o0 => 2                       -- F0
  | .q3, .o7, .o0 => 2                       -- F8
  | .q3, .o0, .o2 => 3                       -- C2
  | .q3, .o1, .o2 => 3                       -- CA
  | .q3, .o2, .o2 => 3                       -- D2
  | .q3, .o3, .o2 => 3                       -- DA
  | .q3, .o5, .o2 => 3                       -- EA
  | .q3, .o7, .o2 => 3                       -- FA
  | .q3, .o0, .o3 => 3                       -- C3
  | .q3, .o1, .o3 => 2                       -- CB
  | .q3, .o0, .o4 => 3                       -- C4
  | .q3, .o1, .o4 => 3                       -- CC
  | .q3, .o2, .o4 => 3                       -- D4
  | .q3, .o3, .o4 => 3                       -- DC
  | .q3, .o1, .o5 => 3                       -- CD
  | .q3, _, .o6 => 2                         -- C6 CE D6 DE E6 EE F6 FE
  | _, _, _ => 1

/-- The instruction is the decoder's `Unimplemented(op)` (30_encoding.md R84). -/
def Instr.unimplemented (i : Instr) : Bool :=
  match i with
  | .unused_D3 | .unused_DB | .unused_DD | .unused_E3 | .unused_E4 | .unused_EB | .unused_EC | .unused_ED | .unused_F4
  | .unused_FC | .unused_FD => true
  | _ => false

/-- Why a list of bytes holds no instruction: it is shorter than the instruction that its first byte begins. -/
inductive DecodeError where
  | empty
  | truncated (needed : Nat)
deriving DecidableEq, Repr

/-- The instruction at the head of a list of bytes and the bytes after it. -/
def decode (bytes : List Byte) : Except DecodeError (Instr × List Byte) :=
  match bytes with
  | [] => .error .empty
  | w0 :: rest =>
    match fetchLength w0, rest with
    | 1, rest => .ok (decodeWindow w0 0 0, rest)
    | 2, w1 :: rest => .ok (decodeWindow w0 w1 0, rest)
    | 3, w1 :: w2 :: rest => .ok (decodeWindow w0 w1 w2, rest)
    | n, _ => .error (.truncated n)

/-- Up to three bytes in address order of a number as spec/opcode_table.json numbers a row's bits (log 11): the first byte is the
least significant one, but for the two-byte rows of the 0xCB space, whose numbers 0xCBNN hold the prefix in the upper byte
(30_encoding.md R82). Bits at and above `nbits` are 0. -/
def tableBytes (nbits w : Nat) : Byte × Byte × Byte :=
  let v := w % 2 ^ nbits
  if nbits = 16 ∧ v / 256 = 0xCB then (0xCB#8, BitVec.ofNat 8 v, 0#8)
  else (BitVec.ofNat 8 v, BitVec.ofNat 8 (v / 256), BitVec.ofNat 8 (v / 65536))

/-- The instruction the decoder reads from a row's bits `w`. -/
def decodeTableWord (nbits w : Nat) : Option Instr :=
  match tableBytes nbits w with
  | (w0, w1, w2) => some (decodeWindow w0 w1 w2)

/-- The bytes of a three-byte instruction: the opcode and `imm16`, low byte first (30_encoding.md R68, F3). -/
def bytesF3 (op : Byte) (imm16 : Word) : List Byte := [op, loByte imm16, hiByte imm16]

/-- The bytes of an instruction in address order (30_encoding.md R68, R78, R81). -/
def encode (i : Instr) : List Byte :=
  match i with
  | .nop => [0x00]
  | .ld_BC_d16 d16 => bytesF3 0x01 d16
  | .ld_mBC_A => [0x02]
  | .inc_BC => [0x03]
  | .inc_B => [0x04]
  | .dec_B => [0x05]
  | .ld_B_d8 d8 => [0x06, d8]
  | .rlca => [0x07]
  | .ld_ma16_SP a16 => bytesF3 0x08 a16
  | .add_HL_BC => [0x09]
  | .ld_A_mBC => [0x0A]
  | .dec_BC => [0x0B]
  | .inc_C => [0x0C]
  | .dec_C => [0x0D]
  | .ld_C_d8 d8 => [0x0E, d8]
  | .rrca => [0x0F]
  | .stop x => [0x10, x]
  | .ld_DE_d16 d16 => bytesF3 0x11 d16
  | .ld_mDE_A => [0x12]
  | .inc_DE => [0x13]
  | .inc_D => [0x14]
  | .dec_D => [0x15]
  | .ld_D_d8 d8 => [0x16, d8]
  | .rla => [0x17]
  | .jr e8 => [0x18, e8]
  | .add_HL_DE => [0x19]
  | .ld_A_mDE => [0x1A]
  | .dec_DE => [0x1B]
  | .inc_E => [0x1C]
  | .dec_E => [0x1D]
  | .ld_E_d8 d8 => [0x1E, d8]
  | .rra => [0x1F]
  | .jr_NZ e8 => [0x20, e8]
  | .ld_HL_d16 d16 => bytesF3 0x21 d16
  | .ld_mHLi_A => [0x22]
  | .inc_HL => [0x23]
  | .inc_H => [0x24]
  | .dec_H => [0x25]
  | .ld_H_d8 d8 => [0x26, d8]
  | .daa => [0x27]
  | .jr_Z e8 => [0x28, e8]
  | .add_HL_HL => [0x29]
  | .ld_A_mHLi => [0x2A]
  | .dec_HL => [0x2B]
  | .inc_L => [0x2C]
  | .dec_L => [0x2D]
  | .ld_L_d8 d8 => [0x2E, d8]
  | .cpl => [0x2F]
  | .jr_NC e8 => [0x30, e8]
  | .ld_SP_d16 d16 => bytesF3 0x31 d16
  | .ld_mHLd_A => [0x32]
  | .inc_SP => [0x33]
  | .inc_mHL => [0x34]
  | .dec_mHL => [0x35]
  | .ld_mHL_d8 d8 => [0x36, d8]
  | .scf => [0x37]
  | .jr_C e8 => [0x38, e8]
  | .add_HL_SP => [0x39]
  | .ld_A_mHLd => [0x3A]
  | .dec_SP => [0x3B]
  | .inc_A => [0x3C]
  | .dec_A => [0x3D]
  | .ld_A_d8 d8 => [0x3E, d8]
  | .ccf => [0x3F]
  | .ld_B_B => [0x40]
  | .ld_B_C => [0x41]
  | .ld_B_D => [0x42]
  | .ld_B_E => [0x43]
  | .ld_B_H => [0x44]
  | .ld_B_L => [0x45]
  | .ld_B_mHL => [0x46]
  | .ld_B_A => [0x47]
  | .ld_C_B => [0x48]
  | .ld_C_C => [0x49]
  | .ld_C_D => [0x4A]
  | .ld_C_E => [0x4B]
  | .ld_C_H => [0x4C]
  | .ld_C_L => [0x4D]
  | .ld_C_mHL => [0x4E]
  | .ld_C_A => [0x4F]
  | .ld_D_B => [0x50]
  | .ld_D_C => [0x51]
  | .ld_D_D => [0x52]
  | .ld_D_E => [0x53]
  | .ld_D_H => [0x54]
  | .ld_D_L => [0x55]
  | .ld_D_mHL => [0x56]
  | .ld_D_A => [0x57]
  | .ld_E_B => [0x58]
  | .ld_E_C => [0x59]
  | .ld_E_D => [0x5A]
  | .ld_E_E => [0x5B]
  | .ld_E_H => [0x5C]
  | .ld_E_L => [0x5D]
  | .ld_E_mHL => [0x5E]
  | .ld_E_A => [0x5F]
  | .ld_H_B => [0x60]
  | .ld_H_C => [0x61]
  | .ld_H_D => [0x62]
  | .ld_H_E => [0x63]
  | .ld_H_H => [0x64]
  | .ld_H_L => [0x65]
  | .ld_H_mHL => [0x66]
  | .ld_H_A => [0x67]
  | .ld_L_B => [0x68]
  | .ld_L_C => [0x69]
  | .ld_L_D => [0x6A]
  | .ld_L_E => [0x6B]
  | .ld_L_H => [0x6C]
  | .ld_L_L => [0x6D]
  | .ld_L_mHL => [0x6E]
  | .ld_L_A => [0x6F]
  | .ld_mHL_B => [0x70]
  | .ld_mHL_C => [0x71]
  | .ld_mHL_D => [0x72]
  | .ld_mHL_E => [0x73]
  | .ld_mHL_H => [0x74]
  | .ld_mHL_L => [0x75]
  | .halt => [0x76]
  | .ld_mHL_A => [0x77]
  | .ld_A_B => [0x78]
  | .ld_A_C => [0x79]
  | .ld_A_D => [0x7A]
  | .ld_A_E => [0x7B]
  | .ld_A_H => [0x7C]
  | .ld_A_L => [0x7D]
  | .ld_A_mHL => [0x7E]
  | .ld_A_A => [0x7F]
  | .add_A_B => [0x80]
  | .add_A_C => [0x81]
  | .add_A_D => [0x82]
  | .add_A_E => [0x83]
  | .add_A_H => [0x84]
  | .add_A_L => [0x85]
  | .add_A_mHL => [0x86]
  | .add_A_A => [0x87]
  | .adc_A_B => [0x88]
  | .adc_A_C => [0x89]
  | .adc_A_D => [0x8A]
  | .adc_A_E => [0x8B]
  | .adc_A_H => [0x8C]
  | .adc_A_L => [0x8D]
  | .adc_A_mHL => [0x8E]
  | .adc_A_A => [0x8F]
  | .sub_B => [0x90]
  | .sub_C => [0x91]
  | .sub_D => [0x92]
  | .sub_E => [0x93]
  | .sub_H => [0x94]
  | .sub_L => [0x95]
  | .sub_mHL => [0x96]
  | .sub_A => [0x97]
  | .sbc_A_B => [0x98]
  | .sbc_A_C => [0x99]
  | .sbc_A_D => [0x9A]
  | .sbc_A_E => [0x9B]
  | .sbc_A_H => [0x9C]
  | .sbc_A_L => [0x9D]
  | .sbc_A_mHL => [0x9E]
  | .sbc_A_A => [0x9F]
  | .and_B => [0xA0]
  | .and_C => [0xA1]
  | .and_D => [0xA2]
  | .and_E => [0xA3]
  | .and_H => [0xA4]
  | .and_L => [0xA5]
  | .and_mHL => [0xA6]
  | .and_A => [0xA7]
  | .xor_B => [0xA8]
  | .xor_C => [0xA9]
  | .xor_D => [0xAA]
  | .xor_E => [0xAB]
  | .xor_H => [0xAC]
  | .xor_L => [0xAD]
  | .xor_mHL => [0xAE]
  | .xor_A => [0xAF]
  | .or_B => [0xB0]
  | .or_C => [0xB1]
  | .or_D => [0xB2]
  | .or_E => [0xB3]
  | .or_H => [0xB4]
  | .or_L => [0xB5]
  | .or_mHL => [0xB6]
  | .or_A => [0xB7]
  | .cp_B => [0xB8]
  | .cp_C => [0xB9]
  | .cp_D => [0xBA]
  | .cp_E => [0xBB]
  | .cp_H => [0xBC]
  | .cp_L => [0xBD]
  | .cp_mHL => [0xBE]
  | .cp_A => [0xBF]
  | .ret_NZ => [0xC0]
  | .pop_BC => [0xC1]
  | .jp_NZ a16 => bytesF3 0xC2 a16
  | .jp a16 => bytesF3 0xC3 a16
  | .call_NZ a16 => bytesF3 0xC4 a16
  | .push_BC => [0xC5]
  | .add_A_d8 d8 => [0xC6, d8]
  | .rst_00 => [0xC7]
  | .ret_Z => [0xC8]
  | .ret => [0xC9]
  | .jp_Z a16 => bytesF3 0xCA a16
  | .prefix_CB b => [0xCB, b]
  | .call_Z a16 => bytesF3 0xCC a16
  | .call a16 => bytesF3 0xCD a16
  | .adc_A_d8 d8 => [0xCE, d8]
  | .rst_08 => [0xCF]
  | .ret_NC => [0xD0]
  | .pop_DE => [0xD1]
  | .jp_NC a16 => bytesF3 0xD2 a16
  | .unused_D3 => [0xD3]
  | .call_NC a16 => bytesF3 0xD4 a16
  | .push_DE => [0xD5]
  | .sub_d8 d8 => [0xD6, d8]
  | .rst_10 => [0xD7]
  | .ret_C => [0xD8]
  | .reti => [0xD9]
  | .jp_C a16 => bytesF3 0xDA a16
  | .unused_DB => [0xDB]
  | .call_C a16 => bytesF3 0xDC a16
  | .unused_DD => [0xDD]
  | .sbc_A_d8 d8 => [0xDE, d8]
  | .rst_18 => [0xDF]
  | .ldh_ma8_A a8 => [0xE0, a8]
  | .pop_HL => [0xE1]
  | .ld_mC_A => [0xE2]
  | .unused_E3 => [0xE3]
  | .unused_E4 => [0xE4]
  | .push_HL => [0xE5]
  | .and_d8 d8 => [0xE6, d8]
  | .rst_20 => [0xE7]
  | .add_SP_e8 e8 => [0xE8, e8]
  | .jp_HL => [0xE9]
  | .ld_ma16_A a16 => bytesF3 0xEA a16
  | .unused_EB => [0xEB]
  | .unused_EC => [0xEC]
  | .unused_ED => [0xED]
  | .xor_d8 d8 => [0xEE, d8]
  | .rst_28 => [0xEF]
  | .ldh_A_ma8 a8 => [0xF0, a8]
  | .pop_AF => [0xF1]
  | .ld_A_mC => [0xF2]
  | .di => [0xF3]
  | .unused_F4 => [0xF4]
  | .push_AF => [0xF5]
  | .or_d8 d8 => [0xF6, d8]
  | .rst_30 => [0xF7]
  | .ld_HL_SPe8 e8 => [0xF8, e8]
  | .ld_SP_HL => [0xF9]
  | .ld_A_ma16 a16 => bytesF3 0xFA a16
  | .ei => [0xFB]
  | .unused_FC => [0xFC]
  | .unused_FD => [0xFD]
  | .cp_d8 d8 => [0xFE, d8]
  | .rst_38 => [0xFF]
  | .rlc_B => [0xCB, 0x00]
  | .rlc_C => [0xCB, 0x01]
  | .rlc_D => [0xCB, 0x02]
  | .rlc_E => [0xCB, 0x03]
  | .rlc_H => [0xCB, 0x04]
  | .rlc_L => [0xCB, 0x05]
  | .rlc_mHL => [0xCB, 0x06]
  | .rlc_A => [0xCB, 0x07]
  | .rrc_B => [0xCB, 0x08]
  | .rrc_C => [0xCB, 0x09]
  | .rrc_D => [0xCB, 0x0A]
  | .rrc_E => [0xCB, 0x0B]
  | .rrc_H => [0xCB, 0x0C]
  | .rrc_L => [0xCB, 0x0D]
  | .rrc_mHL => [0xCB, 0x0E]
  | .rrc_A => [0xCB, 0x0F]
  | .rl_B => [0xCB, 0x10]
  | .rl_C => [0xCB, 0x11]
  | .rl_D => [0xCB, 0x12]
  | .rl_E => [0xCB, 0x13]
  | .rl_H => [0xCB, 0x14]
  | .rl_L => [0xCB, 0x15]
  | .rl_mHL => [0xCB, 0x16]
  | .rl_A => [0xCB, 0x17]
  | .rr_B => [0xCB, 0x18]
  | .rr_C => [0xCB, 0x19]
  | .rr_D => [0xCB, 0x1A]
  | .rr_E => [0xCB, 0x1B]
  | .rr_H => [0xCB, 0x1C]
  | .rr_L => [0xCB, 0x1D]
  | .rr_mHL => [0xCB, 0x1E]
  | .rr_A => [0xCB, 0x1F]
  | .sla_B => [0xCB, 0x20]
  | .sla_C => [0xCB, 0x21]
  | .sla_D => [0xCB, 0x22]
  | .sla_E => [0xCB, 0x23]
  | .sla_H => [0xCB, 0x24]
  | .sla_L => [0xCB, 0x25]
  | .sla_mHL => [0xCB, 0x26]
  | .sla_A => [0xCB, 0x27]
  | .sra_B => [0xCB, 0x28]
  | .sra_C => [0xCB, 0x29]
  | .sra_D => [0xCB, 0x2A]
  | .sra_E => [0xCB, 0x2B]
  | .sra_H => [0xCB, 0x2C]
  | .sra_L => [0xCB, 0x2D]
  | .sra_mHL => [0xCB, 0x2E]
  | .sra_A => [0xCB, 0x2F]
  | .swap_B => [0xCB, 0x30]
  | .swap_C => [0xCB, 0x31]
  | .swap_D => [0xCB, 0x32]
  | .swap_E => [0xCB, 0x33]
  | .swap_H => [0xCB, 0x34]
  | .swap_L => [0xCB, 0x35]
  | .swap_mHL => [0xCB, 0x36]
  | .swap_A => [0xCB, 0x37]
  | .srl_B => [0xCB, 0x38]
  | .srl_C => [0xCB, 0x39]
  | .srl_D => [0xCB, 0x3A]
  | .srl_E => [0xCB, 0x3B]
  | .srl_H => [0xCB, 0x3C]
  | .srl_L => [0xCB, 0x3D]
  | .srl_mHL => [0xCB, 0x3E]
  | .srl_A => [0xCB, 0x3F]
  | .bit_0_B => [0xCB, 0x40]
  | .bit_0_C => [0xCB, 0x41]
  | .bit_0_D => [0xCB, 0x42]
  | .bit_0_E => [0xCB, 0x43]
  | .bit_0_H => [0xCB, 0x44]
  | .bit_0_L => [0xCB, 0x45]
  | .bit_0_mHL => [0xCB, 0x46]
  | .bit_0_A => [0xCB, 0x47]
  | .bit_1_B => [0xCB, 0x48]
  | .bit_1_C => [0xCB, 0x49]
  | .bit_1_D => [0xCB, 0x4A]
  | .bit_1_E => [0xCB, 0x4B]
  | .bit_1_H => [0xCB, 0x4C]
  | .bit_1_L => [0xCB, 0x4D]
  | .bit_1_mHL => [0xCB, 0x4E]
  | .bit_1_A => [0xCB, 0x4F]
  | .bit_2_B => [0xCB, 0x50]
  | .bit_2_C => [0xCB, 0x51]
  | .bit_2_D => [0xCB, 0x52]
  | .bit_2_E => [0xCB, 0x53]
  | .bit_2_H => [0xCB, 0x54]
  | .bit_2_L => [0xCB, 0x55]
  | .bit_2_mHL => [0xCB, 0x56]
  | .bit_2_A => [0xCB, 0x57]
  | .bit_3_B => [0xCB, 0x58]
  | .bit_3_C => [0xCB, 0x59]
  | .bit_3_D => [0xCB, 0x5A]
  | .bit_3_E => [0xCB, 0x5B]
  | .bit_3_H => [0xCB, 0x5C]
  | .bit_3_L => [0xCB, 0x5D]
  | .bit_3_mHL => [0xCB, 0x5E]
  | .bit_3_A => [0xCB, 0x5F]
  | .bit_4_B => [0xCB, 0x60]
  | .bit_4_C => [0xCB, 0x61]
  | .bit_4_D => [0xCB, 0x62]
  | .bit_4_E => [0xCB, 0x63]
  | .bit_4_H => [0xCB, 0x64]
  | .bit_4_L => [0xCB, 0x65]
  | .bit_4_mHL => [0xCB, 0x66]
  | .bit_4_A => [0xCB, 0x67]
  | .bit_5_B => [0xCB, 0x68]
  | .bit_5_C => [0xCB, 0x69]
  | .bit_5_D => [0xCB, 0x6A]
  | .bit_5_E => [0xCB, 0x6B]
  | .bit_5_H => [0xCB, 0x6C]
  | .bit_5_L => [0xCB, 0x6D]
  | .bit_5_mHL => [0xCB, 0x6E]
  | .bit_5_A => [0xCB, 0x6F]
  | .bit_6_B => [0xCB, 0x70]
  | .bit_6_C => [0xCB, 0x71]
  | .bit_6_D => [0xCB, 0x72]
  | .bit_6_E => [0xCB, 0x73]
  | .bit_6_H => [0xCB, 0x74]
  | .bit_6_L => [0xCB, 0x75]
  | .bit_6_mHL => [0xCB, 0x76]
  | .bit_6_A => [0xCB, 0x77]
  | .bit_7_B => [0xCB, 0x78]
  | .bit_7_C => [0xCB, 0x79]
  | .bit_7_D => [0xCB, 0x7A]
  | .bit_7_E => [0xCB, 0x7B]
  | .bit_7_H => [0xCB, 0x7C]
  | .bit_7_L => [0xCB, 0x7D]
  | .bit_7_mHL => [0xCB, 0x7E]
  | .bit_7_A => [0xCB, 0x7F]
  | .res_0_B => [0xCB, 0x80]
  | .res_0_C => [0xCB, 0x81]
  | .res_0_D => [0xCB, 0x82]
  | .res_0_E => [0xCB, 0x83]
  | .res_0_H => [0xCB, 0x84]
  | .res_0_L => [0xCB, 0x85]
  | .res_0_mHL => [0xCB, 0x86]
  | .res_0_A => [0xCB, 0x87]
  | .res_1_B => [0xCB, 0x88]
  | .res_1_C => [0xCB, 0x89]
  | .res_1_D => [0xCB, 0x8A]
  | .res_1_E => [0xCB, 0x8B]
  | .res_1_H => [0xCB, 0x8C]
  | .res_1_L => [0xCB, 0x8D]
  | .res_1_mHL => [0xCB, 0x8E]
  | .res_1_A => [0xCB, 0x8F]
  | .res_2_B => [0xCB, 0x90]
  | .res_2_C => [0xCB, 0x91]
  | .res_2_D => [0xCB, 0x92]
  | .res_2_E => [0xCB, 0x93]
  | .res_2_H => [0xCB, 0x94]
  | .res_2_L => [0xCB, 0x95]
  | .res_2_mHL => [0xCB, 0x96]
  | .res_2_A => [0xCB, 0x97]
  | .res_3_B => [0xCB, 0x98]
  | .res_3_C => [0xCB, 0x99]
  | .res_3_D => [0xCB, 0x9A]
  | .res_3_E => [0xCB, 0x9B]
  | .res_3_H => [0xCB, 0x9C]
  | .res_3_L => [0xCB, 0x9D]
  | .res_3_mHL => [0xCB, 0x9E]
  | .res_3_A => [0xCB, 0x9F]
  | .res_4_B => [0xCB, 0xA0]
  | .res_4_C => [0xCB, 0xA1]
  | .res_4_D => [0xCB, 0xA2]
  | .res_4_E => [0xCB, 0xA3]
  | .res_4_H => [0xCB, 0xA4]
  | .res_4_L => [0xCB, 0xA5]
  | .res_4_mHL => [0xCB, 0xA6]
  | .res_4_A => [0xCB, 0xA7]
  | .res_5_B => [0xCB, 0xA8]
  | .res_5_C => [0xCB, 0xA9]
  | .res_5_D => [0xCB, 0xAA]
  | .res_5_E => [0xCB, 0xAB]
  | .res_5_H => [0xCB, 0xAC]
  | .res_5_L => [0xCB, 0xAD]
  | .res_5_mHL => [0xCB, 0xAE]
  | .res_5_A => [0xCB, 0xAF]
  | .res_6_B => [0xCB, 0xB0]
  | .res_6_C => [0xCB, 0xB1]
  | .res_6_D => [0xCB, 0xB2]
  | .res_6_E => [0xCB, 0xB3]
  | .res_6_H => [0xCB, 0xB4]
  | .res_6_L => [0xCB, 0xB5]
  | .res_6_mHL => [0xCB, 0xB6]
  | .res_6_A => [0xCB, 0xB7]
  | .res_7_B => [0xCB, 0xB8]
  | .res_7_C => [0xCB, 0xB9]
  | .res_7_D => [0xCB, 0xBA]
  | .res_7_E => [0xCB, 0xBB]
  | .res_7_H => [0xCB, 0xBC]
  | .res_7_L => [0xCB, 0xBD]
  | .res_7_mHL => [0xCB, 0xBE]
  | .res_7_A => [0xCB, 0xBF]
  | .set_0_B => [0xCB, 0xC0]
  | .set_0_C => [0xCB, 0xC1]
  | .set_0_D => [0xCB, 0xC2]
  | .set_0_E => [0xCB, 0xC3]
  | .set_0_H => [0xCB, 0xC4]
  | .set_0_L => [0xCB, 0xC5]
  | .set_0_mHL => [0xCB, 0xC6]
  | .set_0_A => [0xCB, 0xC7]
  | .set_1_B => [0xCB, 0xC8]
  | .set_1_C => [0xCB, 0xC9]
  | .set_1_D => [0xCB, 0xCA]
  | .set_1_E => [0xCB, 0xCB]
  | .set_1_H => [0xCB, 0xCC]
  | .set_1_L => [0xCB, 0xCD]
  | .set_1_mHL => [0xCB, 0xCE]
  | .set_1_A => [0xCB, 0xCF]
  | .set_2_B => [0xCB, 0xD0]
  | .set_2_C => [0xCB, 0xD1]
  | .set_2_D => [0xCB, 0xD2]
  | .set_2_E => [0xCB, 0xD3]
  | .set_2_H => [0xCB, 0xD4]
  | .set_2_L => [0xCB, 0xD5]
  | .set_2_mHL => [0xCB, 0xD6]
  | .set_2_A => [0xCB, 0xD7]
  | .set_3_B => [0xCB, 0xD8]
  | .set_3_C => [0xCB, 0xD9]
  | .set_3_D => [0xCB, 0xDA]
  | .set_3_E => [0xCB, 0xDB]
  | .set_3_H => [0xCB, 0xDC]
  | .set_3_L => [0xCB, 0xDD]
  | .set_3_mHL => [0xCB, 0xDE]
  | .set_3_A => [0xCB, 0xDF]
  | .set_4_B => [0xCB, 0xE0]
  | .set_4_C => [0xCB, 0xE1]
  | .set_4_D => [0xCB, 0xE2]
  | .set_4_E => [0xCB, 0xE3]
  | .set_4_H => [0xCB, 0xE4]
  | .set_4_L => [0xCB, 0xE5]
  | .set_4_mHL => [0xCB, 0xE6]
  | .set_4_A => [0xCB, 0xE7]
  | .set_5_B => [0xCB, 0xE8]
  | .set_5_C => [0xCB, 0xE9]
  | .set_5_D => [0xCB, 0xEA]
  | .set_5_E => [0xCB, 0xEB]
  | .set_5_H => [0xCB, 0xEC]
  | .set_5_L => [0xCB, 0xED]
  | .set_5_mHL => [0xCB, 0xEE]
  | .set_5_A => [0xCB, 0xEF]
  | .set_6_B => [0xCB, 0xF0]
  | .set_6_C => [0xCB, 0xF1]
  | .set_6_D => [0xCB, 0xF2]
  | .set_6_E => [0xCB, 0xF3]
  | .set_6_H => [0xCB, 0xF4]
  | .set_6_L => [0xCB, 0xF5]
  | .set_6_mHL => [0xCB, 0xF6]
  | .set_6_A => [0xCB, 0xF7]
  | .set_7_B => [0xCB, 0xF8]
  | .set_7_C => [0xCB, 0xF9]
  | .set_7_D => [0xCB, 0xFA]
  | .set_7_E => [0xCB, 0xFB]
  | .set_7_H => [0xCB, 0xFC]
  | .set_7_L => [0xCB, 0xFD]
  | .set_7_mHL => [0xCB, 0xFE]
  | .set_7_A => [0xCB, 0xFF]

/-- The instruction's `size` (30_encoding.md R65): its length in bytes, and 0 for `Unimplemented` only (R84). -/
def Instr.size (i : Instr) : Nat :=
  if i.unimplemented then 0 else (encode i).length

end Sys2Proof
end

