-- ==== Sys2Proof/Config.lean ====
section
/-! DEFINITION. What a launch of the core fixes (00_scope.md R10): the reset profile with its draws, the `Bus`, and the byte that
memory nothing has listed reads as. The spec leaves no result, flag or register undefined after an instruction, so there is no free
value here. -/

namespace Sys2Proof

/-- What an unlisted address of memory reads as. DESIGN CHOICE (log 1), unsafe: the spec makes the initial contents an input of
the launch (70_reset_and_hazards.md R207) and gives no value. -/
def Config.unlistedByte : Byte := 0x00#8

/-- The number of interrupt lines (00_scope.md R10, `NUM_IRQ`). -/
def Config.numIrq : Nat := 5

/-- The launch draws of the `PowerOn` profile (10_state.md R40, R41): one value for each register whose reset value the spec
leaves open. Bits 3..0 of `f` are not used: F's low nibble is 0 (R40). -/
structure Config.Draws where
  a : Byte
  f : Byte
  b : Byte
  c : Byte
  d : Byte
  e : Byte
  h : Byte
  l : Byte
  sp : Word
deriving DecidableEq, Repr

/-- The draws that `State.reset` takes. DESIGN CHOICE (log 2), unsafe: the spec lets each be any value. -/
def Config.Draws.zero : Config.Draws :=
  { a := 0, f := 0, b := 0, c := 0, d := 0, e := 0, h := 0, l := 0, sp := 0 }

/-- The parameter `reset_profile` (00_scope.md R10, 70_reset_and_hazards.md R205). -/
inductive Config.ResetProfile where
  | powerOn (draws : Config.Draws)
  | postBootDMG
deriving DecidableEq, Repr

/-- What answers at an address of the `Bus` (20_memory.md R44): the flat store; a read-only memory that ignores writes; or a device,
whose reads and writes the platform answers. -/
inductive Config.BusKind where
  | ram | rom | device
deriving DecidableEq, Repr

/-- The addresses from `base` to `base + size - 1` and what answers there. -/
structure Config.BusRegion where
  base : Nat
  size : Nat
  kind : Config.BusKind
deriving DecidableEq, Repr

/-- What a device does at one access (20_memory.md R44; log 23): the byte a read returns, and the bytes of the store that change. A
write stores its byte only if it is among them. -/
structure Config.BusAnswer where
  value : Byte
  stores : List (Word × Byte)
deriving DecidableEq, Repr

/-- The parameter `Bus` (00_scope.md R10, 20_memory.md R44) as plain data (log 10, 23): the address map, in which the first region
that covers an address counts and an address that none covers is `ram`, and the devices' answers to the accesses of a run, the next
one first. -/
structure Config.Bus where
  regions : List Config.BusRegion
  answers : List Config.BusAnswer
deriving DecidableEq, Repr

/-- The default `Bus` (00_scope.md R10): the flat store. -/
def Config.Bus.flat : Config.Bus := { regions := [], answers := [] }

end Sys2Proof
end

