-- ==== Sys2Proof/Machine/State.lean ====
section
/-! DEFINITION. The state of CORE as plain data (10_state.md), the reasons a step can stop (60_exceptions.md R183, R196), and the
state after reset (10_state.md R40, 70_reset_and_hazards.md R205 to R207). -/

namespace Sys2Proof.Machine

/-- The five interrupt lines, in priority order (60_exceptions.md R187 to R189). -/
inductive IrqLine where
  | vblank | lcdStat | timer | serial | joypad
deriving DecidableEq, Repr

/-- The power state of the core (10_state.md R37, 60_exceptions.md R204). -/
inductive Mode where
  | running | halted | stopped
deriving DecidableEq, Repr

/-- What the `fault` cell can record (60_exceptions.md R183): `illegalOpcode` is a fault, `haltBug` a refusal. -/
inductive FaultKind where
  | illegalOpcode
  | haltBug
deriving DecidableEq, Repr

/-- A recorded fault or refusal: its kind, the address (PC) and the opcode byte (60_exceptions.md R183). -/
structure FaultRecord where
  kind : FaultKind
  address : Word
  byte : Byte
deriving DecidableEq, Repr

/-- Why a step answers no next state. Each is raised by `step` alone, on a state that has no step; the meanings raise none. -/
inductive Fault where
  /-- Raised by `step` in every state whose fault cell records an executed unused byte (60_exceptions.md R184). Safe: the chip
  locks up there, the model stops. -/
  | illegalOpcode (address : Word) (byte : Byte)
  /-- Raised by `step` in `mode = Stopped` (60_exceptions.md R196): the wake-up of STOP is outside CORE. Safe: the chip may go on,
  the model stops (log 7). -/
  | stopped
deriving DecidableEq, Repr

/-- Why the model gives no meaning. -/
inductive Refusal where
  /-- An instruction with no meaning yet, raised by `exec`'s arm for it. Safe: the model stops. No arm raises it. -/
  | notModelled (mnemonic : String)
  /-- Raised by `step` in every state whose fault cell records HALT with IME = 0 and an interrupt pending (60_exceptions.md R185;
  92_eei_decisions.md D11). Safe: the chip goes on, the model stops (log 8). -/
  | haltBug (address : Word)
deriving DecidableEq, Repr

/-- An access to a device of the `Bus` (20_memory.md R43, R44). -/
inductive BusAccess where
  | read (a : Word)
  | write (a : Word) (v : Byte)
deriving DecidableEq, Repr

/-- The state of CORE. -/
structure State where
  /-- Register A (10_state.md R19). -/
  a : Byte
  /-- The flags cell F: Z, N, H, C in bits 7..4, bits 3..0 zero (10_state.md R20, R21). -/
  f : Byte
  /-- Register B (R19). -/
  b : Byte
  /-- Register C (R19). -/
  c : Byte
  /-- Register D (R19). -/
  d : Byte
  /-- Register E (R19). -/
  e : Byte
  /-- Register H (R19). -/
  h : Byte
  /-- Register L (R19). -/
  l : Byte
  /-- The stack pointer (R19, R29). -/
  sp : Word
  /-- The program counter (R19, R30). -/
  pc : Word
  /-- Interrupt master enable (R35). -/
  ime : Bool
  /-- The delayed effect of EI (R36). -/
  eiPending : Bool
  /-- Running, Halted or Stopped (R37). -/
  mode : Mode
  /-- The fault cell (R38). -/
  fault : Option FaultRecord
  /-- The 65,536 bytes of memory (20_memory.md R42) as the list of the bytes that differ from `Config.unlistedByte`, addresses
  strictly rising. -/
  mem : List Host.Cell
  /-- The parameter `Bus` (00_scope.md R10, 20_memory.md R44): its address map, which no step changes, and the devices' answers to the
  accesses to come (the model's own form, log 10, 23). -/
  bus : Config.Bus
  /-- The accesses to devices so far, oldest first: what the core has shown the `Bus` (the model's own field, log 23). -/
  busLog : List BusAccess
  /-- The interrupt controller's answers `IrqPending` for the coming steps, the next one first; past the end it answers `none`
  (60_exceptions.md R187; the model's own field, log 4). -/
  irqInputs : List (Option IrqLine)
  /-- The acknowledgements `ack(n)` the core has given the controller, oldest first (60_exceptions.md R187, R192; the model's own
  field, log 5). -/
  acks : List IrqLine
deriving DecidableEq, Repr

/-- One step's outcome. -/
abbrev Result := Host.Outcome State Fault Refusal

/-- The state after reset (10_state.md R40, 70_reset_and_hazards.md R205, R206) for a reset profile, the `Bus`, the
initial memory and the interrupt controller's answers, which the platform gives (70_reset_and_hazards.md R207, 00_scope.md R10). -/
def State.resetWith (profile : Config.ResetProfile) (bus : Config.Bus) (mem : List Host.Cell)
    (irqInputs : List (Option IrqLine)) : State :=
  match profile with
  | .powerOn r =>
    { a := r.a, f := r.f &&& 0xF0, b := r.b, c := r.c, d := r.d, e := r.e, h := r.h, l := r.l, sp := r.sp, pc := 0x0000,
      ime := false, eiPending := false, mode := .running, fault := none, mem := mem, bus := bus, busLog := [],
      irqInputs := irqInputs, acks := [] }
  | .postBootDMG =>
    { a := 0x01, f := 0xB0, b := 0x00, c := 0x13, d := 0x00, e := 0xD8, h := 0x01, l := 0x4D, sp := 0xFFFE, pc := 0x0100,
      ime := false, eiPending := false, mode := .running, fault := none, mem := mem, bus := bus, busLog := [],
      irqInputs := irqInputs, acks := [] }

/-- The machine right after reset: the default profile `PowerOn` (00_scope.md R10) with every draw 0 (DESIGN CHOICE, log 2),
the default `Bus` (00_scope.md R10), memory with nothing listed (log 1) and no interrupt reported (log 4). -/
def State.reset : State := State.resetWith (.powerOn Config.Draws.zero) Config.Bus.flat [] []

end Sys2Proof.Machine
end

