-- ==== Sys2Proof/Machine/Ops.lean ====
section
/-! DEFINITION. The named operations over memory, every access through the `Bus` (20_memory.md R43, R44), and over registers
(10_state.md R22 to R26, 00_scope.md R14), the stack (46_control.md R154, R155), the advance of PC (10_state.md R31), recording a
fault (60_exceptions.md R184 to R186), taking an interrupt (R187 to R192) and the other work a step does around an instruction
(R194). -/

namespace Sys2Proof.Machine

/-! ### Memory -/

/-- The byte listed at address `a`, or `Config.unlistedByte`; the list's addresses rise. -/
def readCells (m : List Host.Cell) (a : Nat) : Byte :=
  match m with
  | [] => Config.unlistedByte
  | (k, w) :: m => if a = k then w else if k < a then readCells m a else Config.unlistedByte

/-- `m` with byte `v` at address `a`, in canonical form: an address that reads as an unlisted one is not listed. -/
def writeCells (m : List Host.Cell) (a : Nat) (v : Byte) : List Host.Cell :=
  match m with
  | [] => if v = Config.unlistedByte then [] else [(a, v)]
  | (k, w) :: m =>
    if k < a then (k, w) :: writeCells m a v
    else if a = k then (if v = Config.unlistedByte then m else (a, v) :: m)
    else if v = Config.unlistedByte then (k, w) :: m else (a, v) :: (k, w) :: m

/-- The byte of the store at address `a`. -/
def State.peek (s : State) (a : Word) : Byte := readCells s.mem a.toNat

/-- Byte `v` put into the store at address `a`, past the `Bus`: a load from outside the machine. -/
def State.poke (s : State) (a : Word) (v : Byte) : State := { s with mem := writeCells s.mem a.toNat v }

/-! ### The Bus (20_memory.md R43, R44; log 10, 23) -/

/-- What answers at address `a`: the first region that covers it, else `ram`. -/
def kindIn (regions : List Config.BusRegion) (a : Nat) : Config.BusKind :=
  match regions with
  | [] => .ram
  | r :: regions => if r.base ≤ a ∧ a < r.base + r.size then r.kind else kindIn regions a

/-- What answers at address `a`. -/
def State.kindAt (s : State) (a : Word) : Config.BusKind := kindIn s.bus.regions a.toNat

/-- The address of an access. -/
def BusAccess.address (x : BusAccess) : Word :=
  match x with
  | .read a => a
  | .write a _ => a

/-- The flat store after an access: a read changes nothing (20_memory.md R44). -/
def flatAfter (m : List Host.Cell) (x : BusAccess) : List Host.Cell :=
  match x with
  | .read _ => m
  | .write a v => writeCells m a.toNat v

/-- The store after the bytes that a device's answer changes, in their order. -/
def applyStores (m : List Host.Cell) (l : List (Word × Byte)) : List Host.Cell :=
  match l with
  | [] => m
  | x :: l => applyStores (writeCells m x.1.toNat x.2) l

/-- The store after an access: flat where `ram` answers, unchanged where `rom` does, changed as its answer says where a device does;
a device with no answer left is flat (log 23). -/
def storeAfter (bus : Config.Bus) (m : List Host.Cell) (x : BusAccess) : List Host.Cell :=
  match kindIn bus.regions x.address.toNat with
  | .ram => flatAfter m x
  | .rom => m
  | .device =>
    match bus.answers with
    | [] => flatAfter m x
    | r :: _ => applyStores m r.stores

/-- The `Bus` after an access: a device has given its answer. -/
def busAfter (bus : Config.Bus) (x : BusAccess) : Config.Bus :=
  match kindIn bus.regions x.address.toNat with
  | .device => { bus with answers := bus.answers.tail }
  | .ram | .rom => bus

/-- The accesses to devices after an access. -/
def busLogAfter (bus : Config.Bus) (log : List BusAccess) (x : BusAccess) : List BusAccess :=
  match kindIn bus.regions x.address.toNat with
  | .device => log ++ [x]
  | .ram | .rom => log

/-- One access through the `Bus`; no cell of the core changes. -/
def State.access (s : State) (x : BusAccess) : State :=
  { s with mem := storeAfter s.bus s.mem x, bus := busAfter s.bus x, busLog := busLogAfter s.bus s.busLog x }

/-- The byte a read at `a` gets from this `Bus` and store. -/
def valueRead (bus : Config.Bus) (m : List Host.Cell) (a : Word) : Byte :=
  match kindIn bus.regions a.toNat with
  | .ram | .rom => readCells m a.toNat
  | .device =>
    match bus.answers with
    | [] => readCells m a.toNat
    | r :: _ => r.value

/-- The value of `MemRead(a, 1)` (00_scope.md R14). -/
def State.read (s : State) (a : Word) : Byte := valueRead s.bus s.mem a

/-- The state after `MemRead(a, 1)`: what the read does at a device (20_memory.md R44, R50). -/
def State.afterRead (s : State) (a : Word) : State := s.access (.read a)

/-- `MemWrite(a, 1, v)` (00_scope.md R14). -/
def State.write (s : State) (a : Word) (v : Byte) : State := s.access (.write a v)

/-- `MemRead(a, 2)`, little-endian, the low byte first and the second byte at `wrap16(a+1)`, and the state after it (00_scope.md R14,
20_memory.md R45, R47, R51). -/
def State.read16 (s : State) (a : Word) : Word × State :=
  (join ((s.afterRead a).read (a + 1)) (s.read a), (s.afterRead a).afterRead (a + 1))

/-- `MemWrite(a, 2, v)`: the low byte first, then the high byte at `wrap16(a+1)` (00_scope.md R14, 20_memory.md R51). -/
def State.write16 (s : State) (a : Word) (v : Word) : State := (s.write a (loByte v)).write (a + 1) (hiByte v)

/-! ### Registers -/

/-- The cell of a register (10_state.md R19). -/
def State.reg8 (s : State) (r : Reg8) : Byte :=
  match r with
  | .A => s.a
  | .B => s.b
  | .C => s.c
  | .D => s.d
  | .E => s.e
  | .H => s.h
  | .L => s.l

/-- `get8`: the registers, and F for reading (10_state.md R25). -/
def State.get8 (s : State) (n : Name8) : Byte :=
  match n with
  | .reg r => s.reg8 r
  | .F => s.f

/-- `set8` (10_state.md R25). -/
def State.set8 (s : State) (r : Reg8) (v : Byte) : State :=
  match r with
  | .A => { s with a := v }
  | .B => { s with b := v }
  | .C => { s with c := v }
  | .D => { s with d := v }
  | .E => { s with e := v }
  | .H => { s with h := v }
  | .L => { s with l := v }

/-- `get16` (10_state.md R22, R25): a pair view is computed from its cells. -/
def State.get16 (s : State) (p : Reg16) : Word :=
  match p with
  | .AF => join s.a s.f
  | .BC => join s.b s.c
  | .DE => join s.d s.e
  | .HL => join s.h s.l
  | .SP => s.sp
  | .PC => s.pc

/-- `set16` (10_state.md R23, R25): both cells of a pair at once; F's low nibble is forced to 0 (R21). -/
def State.set16 (s : State) (p : Reg16) (v : Word) : State :=
  match p with
  | .AF => { s with a := hiByte v, f := loByte v &&& 0xF0 }
  | .BC => { s with b := hiByte v, c := loByte v }
  | .DE => { s with d := hiByte v, e := loByte v }
  | .HL => { s with h := hiByte v, l := loByte v }
  | .SP => { s with sp := v }
  | .PC => { s with pc := v }

/-- `incPair` (10_state.md R26): the value before, and the state with the pair incremented modulo 65536. -/
def State.incPair (s : State) (p : Reg16) : Word × State := (s.get16 p, s.set16 p (s.get16 p + 1))

/-- `decPair` (10_state.md R26): the value before, and the state with the pair decremented modulo 65536. -/
def State.decPair (s : State) (p : Reg16) : Word × State := (s.get16 p, s.set16 p (s.get16 p - 1))

/-! ### Program counter and stack -/

/-- `pc_next` of an instruction of `n` bytes (10_state.md R31). -/
def State.pcNext (s : State) (n : Word) : Word := s.pc + n

/-- `PC <- pc_next` for an instruction of `n` bytes (10_state.md R31). -/
def State.advance (s : State) (n : Word) : State := { s with pc := s.pcNext n }

/-- `pc <- t`: a taken control transfer (46_control.md R152). -/
def State.jumpTo (s : State) (t : Word) : State := { s with pc := t }

/-- One byte pushed: SP is decremented, then the byte is written at SP (46_control.md R154). -/
def State.pushByte (s : State) (v : Byte) : State := (s.set16 .SP (s.sp - 1)).write (s.sp - 1) v

/-- `push16(v)`: the high byte first (46_control.md R154, 20_memory.md R51). -/
def State.push16 (s : State) (v : Word) : State := (s.pushByte (hiByte v)).pushByte (loByte v)

/-- One byte popped: the byte at SP is read, then SP is incremented (46_control.md R155). -/
def State.popByte (s : State) : Byte × State := (s.read s.sp, (s.afterRead s.sp).set16 .SP (s.sp + 1))

/-- `pop16()`: the low byte first (46_control.md R155). -/
def State.pop16 (s : State) : Word × State :=
  (join s.popByte.2.popByte.1 s.popByte.1, s.popByte.2.popByte.2)

/-! ### Faults and interrupts -/

/-- `raise Fault(kind, {PC, byte})` and `refuse(kind)`: the fault cell is written and nothing else (60_exceptions.md R183 to R186). -/
def State.recordFault (s : State) (kind : FaultKind) (byte : Byte) : State := { s with fault := some ⟨kind, s.pc, byte⟩ }

/-- The number n of an interrupt line (60_exceptions.md R188). -/
def IrqLine.number (n : IrqLine) : Word :=
  match n with
  | .vblank => 0
  | .lcdStat => 1
  | .timer => 2
  | .serial => 3
  | .joypad => 4

/-- The entry address of interrupt n, `0x0040 + 8 * n` (60_exceptions.md R190). -/
def IrqLine.entry (n : IrqLine) : Word := 0x0040 + 8 * n.number

/-- `IrqPending` at the start of this step (60_exceptions.md R187): the head of `irqInputs`, `none` past its end (log 4). -/
def State.irqPending (s : State) : Option IrqLine := s.irqInputs.head?.join

/-- The step is over: its `IrqPending` answer is used up (60_exceptions.md R194). -/
def State.nextInput (s : State) : State := { s with irqInputs := s.irqInputs.tail }

/-- Accepting interrupt n (60_exceptions.md R192): IME and `ei_pending` are cleared, n is acknowledged, PC is pushed, and PC
becomes the entry address. -/
def State.dispatchIrq (s : State) (n : IrqLine) : State :=
  ({ s with ime := false, eiPending := false, acks := s.acks ++ [n] }.push16 s.pc).jumpTo n.entry

/-- Return from an interrupt: PC is popped and IME is set at once (46_control.md R165, 60_exceptions.md R193). -/
def State.returnIrq (s : State) : State :=
  { s.pop16.2.jumpTo s.pop16.1 with ime := true }

/-! ### The work of a step around an instruction -/

/-- The outcome in a state that has no step, or that is held (60_exceptions.md R194): the recorded fault or refusal (R184, R185),
a stopped core (R196), and a halted core with nothing pending, which only lets the step's input pass (R195; log 6). -/
def State.noStep (s : State) : Option Result :=
  match s.fault with
  | some r =>
    match r.kind with
    | .illegalOpcode => some (.fault (.illegalOpcode r.address r.byte))
    | .haltBug => some (.refused (.haltBug r.address))
  | none =>
    match s.mode with
    | .running => none
    | .stopped => some (.fault .stopped)
    | .halted => if s.irqPending.isNone then some (.next s.nextInput) else none

/-- `mode <- Running`, when a halted core leaves Halted (60_exceptions.md R194, R195). -/
def State.wake (s : State) : State := { s with mode := .running }

/-- The interrupt accepted at the start of this step (60_exceptions.md R191). -/
def State.accepts (s : State) : Option IrqLine := if s.ime then s.irqPending else none

/-- EI takes effect: `if ei_pending == 1: IME <- 1; ei_pending <- 0` (60_exceptions.md R194, 47_misc.md R174). -/
def State.promoteEi (s : State) : State := if s.eiPending then { s with ime := true, eiPending := false } else s

/-- The instruction at PC and the state after its bytes are read, in order, at `wrap16(PC)`, `wrap16(PC+1)`, `wrap16(PC+2)` as far
as it reaches (20_memory.md R62, 30_encoding.md R76). -/
def State.fetch (s : State) : Instr × State :=
  let s1 := s.afterRead s.pc
  let s2 := s1.afterRead (s.pc + 1)
  match fetchLength (s.read s.pc) with
  | 1 => (decodeWindow (s.read s.pc) 0 0, s1)
  | 2 => (decodeWindow (s.read s.pc) (s1.read (s.pc + 1)) 0, s2)
  | _ => (decodeWindow (s.read s.pc) (s1.read (s.pc + 1)) (s2.read (s.pc + 2)), s2.afterRead (s.pc + 2))

/-- The end of a step that began in `s` and whose instruction left `t`: the step's input is used up, and a step that recorded a
fault leaves `s` but for the fault cell (60_exceptions.md R186; log 9). -/
def State.commit (s t : State) : State :=
  match t.fault with
  | none => t.nextInput
  | some r => { s with fault := some r }

/-- The outcome of a step that began in `s` and whose instruction answered `r`. -/
def settle (s : State) (r : Result) : Result :=
  match r with
  | .next t => .next (s.commit t)
  | .fault x => .fault x
  | .refused x => .refused x

end Sys2Proof.Machine
end

