-- ==== Sys2Proof/Machine/Flags.lean ====
section
/-! DEFINITION. The flags cell (10_state.md R20, R32), the eight conditions, and every flag computation of the spec: the 8-bit ALU
(42_alu8.md), increment and decrement (41_incdec.md), 16-bit addition (43_alu16.md), rotates and shifts (44_rotate_shift.md), bit
tests (45_bit.md) and the decimal adjustment (47_misc.md R175). -/

namespace Sys2Proof.Machine

/-- `F.Z` (10_state.md R20). -/
def State.flagZ (s : State) : Bool := s.f.getLsbD 7

/-- `F.N` (10_state.md R20). -/
def State.flagN (s : State) : Bool := s.f.getLsbD 6

/-- `F.H` (10_state.md R20). -/
def State.flagH (s : State) : Bool := s.f.getLsbD 5

/-- `F.C` (10_state.md R20). -/
def State.flagC (s : State) : Bool := s.f.getLsbD 4

/-- `flag(Flag)` (10_state.md R25). -/
def State.flag (s : State) (x : Flag) : Bool :=
  match x with
  | .Z => s.flagZ
  | .N => s.flagN
  | .H => s.flagH
  | .C => s.flagC

/-- The byte F with these flags (10_state.md R20) over the low nibble of `old`, which no flag effect writes (00_scope.md R16;
log 15). -/
def packFlags (z n h c : Bool) (old : Byte) : Byte :=
  (((BitVec.ofBool z ++ BitVec.ofBool n) ++ BitVec.ofBool h) ++ BitVec.ofBool c) ++ old.extractLsb' 0 4

/-- F with the four flags written; a flag that the instruction leaves unchanged is passed as it is (00_scope.md R16). -/
def State.setFlags (s : State) (z n h c : Bool) : State := { s with f := packFlags z n h c s.f }

/-- One flag made `v`, the others unchanged: `setFlag` and `resetFlag` (10_state.md R25). -/
def State.putFlag (s : State) (x : Flag) (v : Bool) : State :=
  match x with
  | .Z => s.setFlags v s.flagN s.flagH s.flagC
  | .N => s.setFlags s.flagZ v s.flagH s.flagC
  | .H => s.setFlags s.flagZ s.flagN v s.flagC
  | .C => s.setFlags s.flagZ s.flagN s.flagH v

/-- `cond(cc)` (10_state.md R32). -/
def State.cond (s : State) (cc : Cond) : Bool :=
  match cc with
  | .isSet x => s.flag x
  | .isClear x => !s.flag x

/-- NZ (30_encoding.md R73). -/
def condNZ : Cond := .isClear .Z

/-- Z (30_encoding.md R73). -/
def condZ : Cond := .isSet .Z

/-- NC (30_encoding.md R73). -/
def condNC : Cond := .isClear .C

/-- C (30_encoding.md R73). -/
def condC : Cond := .isSet .C

/-- A result byte with the flags the operation computes. -/
structure ByteOut where
  res : Byte
  z : Bool
  n : Bool
  h : Bool
  c : Bool
deriving DecidableEq, Repr

/-- `v & 0x0F` as a number. -/
def nibble (v : Byte) : Nat := v.toNat % 16

/-- A flag as the number 0 or 1. -/
def bit (c : Bool) : Nat := if c then 1 else 0

/-! ### 8-bit ALU (42_alu8.md) -/

/-- ADD and ADC with carry in `c` (R124, R125). -/
def addByte (a b : Byte) (c : Bool) : ByteOut :=
  let sum := a.toNat + b.toNat + bit c
  let res := BitVec.ofNat 8 sum
  { res := res, z := res == 0#8, n := false, h := decide (nibble a + nibble b + bit c > 0x0F), c := decide (sum > 0xFF) }

/-- SUB, SBC and CP with borrow in `c` (R126, R127, R131). -/
def subByte (a b : Byte) (c : Bool) : ByteOut :=
  let res := a - b - BitVec.ofNat 8 (bit c)
  { res := res, z := res == 0#8, n := true, h := decide (nibble a < nibble b + bit c), c := decide (a.toNat < b.toNat + bit c) }

/-- A logical operation's result: Z computed, N and C clear, H as given (R128, R129, R130). -/
def logicByte (res : Byte) (h : Bool) : ByteOut := { res := res, z := res == 0#8, n := false, h := h, c := false }

/-- The eight ALU operations on A, the operand and F.C (R124 to R131). -/
def aluByte (op : AluOp) (a b : Byte) (c : Bool) : ByteOut :=
  match op with
  | .ADD => addByte a b false
  | .ADC => addByte a b c
  | .SUB => subByte a b false
  | .SBC => subByte a b c
  | .AND => logicByte (a &&& b) true
  | .XOR => logicByte (a ^^^ b) false
  | .OR => logicByte (a ||| b) false
  | .CP => { subByte a b false with res := a }

/-! ### Increment and decrement (41_incdec.md) -/

/-- INC r: Z, N = 0, H; C as it was (R115). -/
def incByte (v : Byte) (c : Bool) : ByteOut :=
  { res := v + 1, z := v + 1 == 0#8, n := false, h := decide (nibble v = 0x0F), c := c }

/-- DEC r: Z, N = 1, H; C as it was (R117). -/
def decByte (v : Byte) (c : Bool) : ByteOut :=
  { res := v - 1, z := v - 1 == 0#8, n := true, h := decide (nibble v = 0x00), c := c }

/-! ### 16-bit arithmetic (43_alu16.md) -/

/-- The half carry of ADD HL,rr: out of bit 11 (R132). -/
def halfCarry16 (h v : Word) : Bool := decide (h.toNat % 0x1000 + v.toNat % 0x1000 > 0x0FFF)

/-- The carry of ADD HL,rr: out of bit 15 (R132). -/
def carry16 (h v : Word) : Bool := decide (h.toNat + v.toNat > 0xFFFF)

/-- The half carry of ADD SP,e8 and LD HL,SP+e8: out of bit 3 of the low bytes (R133). -/
def halfCarrySp (s : Word) (e : Byte) : Bool := decide (s.toNat % 16 + nibble e > 0x0F)

/-- The carry of ADD SP,e8 and LD HL,SP+e8: out of bit 7 of the low bytes (R133). -/
def carrySp (s : Word) (e : Byte) : Bool := decide (s.toNat % 256 + e.toNat > 0xFF)

/-! ### Rotates, shifts, swap (44_rotate_shift.md) -/

/-- The result of a rotate, shift or swap, with Z from it, N = H = 0 and carry `co` (R135). -/
def rotOut (res : Byte) (co : Bool) : ByteOut := { res := res, z := res == 0#8, n := false, h := false, c := co }

/-- `wrap8((v << 1) | b)`. -/
def shiftLeft (v : Byte) (b : Bool) : Byte := (v <<< 1) ||| BitVec.ofNat 8 (bit b)

/-- `(v >> 1) | (b << 7)`. -/
def shiftRight (v : Byte) (b : Bool) : Byte := (v >>> 1) ||| (BitVec.ofNat 8 (bit b) <<< 7)

/-- The eight operations on the operand and F.C (R141 to R148). -/
def rotByte (op : RotOp) (v : Byte) (c : Bool) : ByteOut :=
  match op with
  | .RLC => rotOut (shiftLeft v (v.getLsbD 7)) (v.getLsbD 7)
  | .RRC => rotOut (shiftRight v (v.getLsbD 0)) (v.getLsbD 0)
  | .RL => rotOut (shiftLeft v c) (v.getLsbD 7)
  | .RR => rotOut (shiftRight v c) (v.getLsbD 0)
  | .SLA => rotOut (shiftLeft v false) (v.getLsbD 7)
  | .SRA => rotOut ((v >>> 1) ||| (v &&& 0x80)) (v.getLsbD 0)
  | .SWAP => rotOut (((v &&& 0x0F) <<< 4) ||| (v >>> 4)) false
  | .SRL => rotOut (v >>> 1) (v.getLsbD 0)

/-! ### Bits (45_bit.md) -/

/-- `v & ~(1 << n)` (R150). -/
def resetBit (n : Oct) (v : Byte) : Byte := v &&& ~~~(1#8 <<< n.value)

/-- `v | (1 << n)` (R151). -/
def setBit (n : Oct) (v : Byte) : Byte := v ||| (1#8 <<< n.value)

/-! ### Decimal adjustment (47_misc.md R175) -/

/-- DAA on A with F.N, F.H, F.C: the adjusted A, Z from it, N as it was, H = 0, and C. -/
def daaByte (a : Byte) (n h c : Bool) : ByteOut :=
  if n then
    let a1 := if c then a - 0x60 else a
    let a2 := if h then a1 - 0x06 else a1
    { res := a2, z := a2 == 0#8, n := n, h := false, c := c }
  else
    let high := c || decide (a.toNat > 0x99)
    let a1 := if high then a.toNat + 0x60 else a.toNat
    let a2 := if h || decide (a1 % 16 > 0x09) then a1 + 0x06 else a1
    let res := BitVec.ofNat 8 a2
    { res := res, z := res == 0#8, n := n, h := false, c := high }

end Sys2Proof.Machine
end

