-- ==== Sys2Proof/Machine/Operands.lean ====
section
/-! DEFINITION. The operand model (20_memory.md R54 to R59): the closed set of operand variants, how each is resolved, read and
written, and the shapes that the instruction families share over them. -/

namespace Sys2Proof.Machine

/-- What resolving `IndirectRegister` does to the pair (20_memory.md R54, R58). -/
inductive IndMode where
  | plain | postInc | postDec
deriving DecidableEq, Repr

/-- An 8-bit operand that can be written (20_memory.md R54, R55): every variant but `Immediate`. -/
inductive Dest8 where
  | reg (r : Reg8)
  | ind (p : PtrPair) (m : IndMode)
  | highImm (a8 : Byte)
  | highC
  | abs (a16 : Word)
deriving DecidableEq, Repr

/-- An 8-bit operand that is read (20_memory.md R54). -/
inductive Src8 where
  | imm (v : Byte)
  | loc (d : Dest8)
deriving DecidableEq, Repr

/-- Where a resolved operand is: a register cell or a byte of memory. -/
inductive Place where
  | cell (r : Reg8)
  | byteAt (a : Word)
deriving DecidableEq, Repr

/-- `(HL)`: `IndirectRegister(HL, none)`. -/
def atHL : Dest8 := .ind .HL .plain

/-- The 16-bit name of a pointer pair. -/
def ptrReg16 (p : PtrPair) : Reg16 :=
  match p with
  | .BC => .BC
  | .DE => .DE
  | .HL => .HL

/-- The operand of index 0..7: B, C, D, E, H, L, (HL), A (30_encoding.md R70). -/
def operandOf (i : Oct) : Dest8 :=
  match i with
  | .o0 => .reg .B
  | .o1 => .reg .C
  | .o2 => .reg .D
  | .o3 => .reg .E
  | .o4 => .reg .H
  | .o5 => .reg .L
  | .o6 => atHL
  | .o7 => .reg .A

/-- The base address of the high page (20_memory.md R59). -/
def highPage (offset : Byte) : Word := 0xFF00 + zext16 offset

/-- The place an operand names, and the state after the pair update that resolving it does (20_memory.md R57, R58, 40_loads.md R91):
the old pair value addresses memory, the new one is stored back. -/
def State.resolve (s : State) (d : Dest8) : Place × State :=
  match d with
  | .reg r => (.cell r, s)
  | .ind p .plain => (.byteAt (s.get16 (ptrReg16 p)), s)
  | .ind p .postInc => (.byteAt (s.incPair (ptrReg16 p)).1, (s.incPair (ptrReg16 p)).2)
  | .ind p .postDec => (.byteAt (s.decPair (ptrReg16 p)).1, (s.decPair (ptrReg16 p)).2)
  | .highImm a8 => (.byteAt (highPage a8), s)
  | .highC => (.byteAt (highPage s.c), s)
  | .abs a16 => (.byteAt a16, s)

/-- The byte at a place. -/
def State.readPlace (s : State) (p : Place) : Byte :=
  match p with
  | .cell r => s.get8 (.reg r)
  | .byteAt a => s.read a

/-- The state after a place is read: what the read does at a device of the `Bus` (20_memory.md R44). -/
def State.touchPlace (s : State) (p : Place) : State :=
  match p with
  | .cell _ => s
  | .byteAt a => s.afterRead a

/-- Byte `v` written to a place. -/
def State.writePlace (s : State) (p : Place) (v : Byte) : State :=
  match p with
  | .cell r => s.set8 r v
  | .byteAt a => s.write a v

/-- A source operand's value, and the state after it is resolved and read (20_memory.md R57). -/
def State.readSrc (s : State) (o : Src8) : Byte × State :=
  match o with
  | .imm v => (v, s)
  | .loc d => ((s.resolve d).2.readPlace (s.resolve d).1, (s.resolve d).2.touchPlace (s.resolve d).1)

/-! ### Shapes of the families -/

/-- An 8-bit load of `n` bytes: the source is read completely, then the destination is written (40_loads.md R90). -/
def State.load8 (s : State) (n : Word) (d : Dest8) (o : Src8) : State :=
  let src := s.readSrc o
  let dst := src.2.resolve d
  (dst.2.writePlace dst.1 src.1).advance n

/-- A read and a write of one operand with flags: INC, DEC, rotates, shifts, SWAP (41_incdec.md, 44_rotate_shift.md R136); `g` gets
the operand and F.C. -/
def State.modify8 (s : State) (n : Word) (d : Dest8) (g : Byte → Bool → ByteOut) : State :=
  let loc := s.resolve d
  let r := g (loc.2.readPlace loc.1) loc.2.flagC
  (((loc.2.touchPlace loc.1).writePlace loc.1 r.res).setFlags r.z r.n r.h r.c).advance n

/-- A read and a write of one operand without flags: RES and SET (45_bit.md R150, R151). -/
def State.rewrite8 (s : State) (n : Word) (d : Dest8) (g : Byte → Byte) : State :=
  let loc := s.resolve d
  ((loc.2.touchPlace loc.1).writePlace loc.1 (g (loc.2.readPlace loc.1))).advance n

/-- An ALU operation on A and an operand (42_alu8.md R123). CP writes A back unchanged, so A is not written (R131). -/
def State.alu (s : State) (n : Word) (op : AluOp) (o : Src8) : State :=
  let src := s.readSrc o
  let r := aluByte op src.2.a src.1 src.2.flagC
  ((src.2.set8 .A r.res).setFlags r.z r.n r.h r.c).advance n

/-- BIT n: Z from the bit, N = 0, H = 1, C as it was; the core writes F alone (45_bit.md R149). -/
def State.testBit (s : State) (n : Word) (k : Oct) (d : Dest8) : State :=
  let loc := s.resolve d
  ((loc.2.touchPlace loc.1).setFlags (!(loc.2.readPlace loc.1).getLsbD k.value) false true loc.2.flagC).advance n

/-- An accumulator rotate: Z is cleared, the rest as the 0xCB form (44_rotate_shift.md R135, R137 to R140). -/
def State.rotA (s : State) (n : Word) (op : RotOp) : State :=
  let r := rotByte op s.a s.flagC
  ((s.set8 .A r.res).setFlags false false false r.c).advance n

/-- A write of a 16-bit register or pair, no flag (40_loads.md R111, R113, 41_incdec.md R119, R120). -/
def State.load16 (s : State) (n : Word) (p : Reg16) (v : Word) : State := (s.set16 p v).advance n

/-- ADD HL,rr: Z unchanged, N = 0 (43_alu16.md R132). -/
def State.addHL (s : State) (n : Word) (p : Reg16) : State :=
  let h := s.get16 .HL
  let v := s.get16 p
  ((s.set16 .HL (h + v)).setFlags s.flagZ false (halfCarry16 h v) (carry16 h v)).advance n

/-- SP plus a signed byte into `p`: ADD SP,e8 and LD HL,SP+e8 (43_alu16.md R133, R134). -/
def State.addSp (s : State) (n : Word) (p : Reg16) (e8 : Byte) : State :=
  ((s.set16 p (s.sp + sext16 e8)).setFlags false false (halfCarrySp s.sp e8) (carrySp s.sp e8)).advance n

/-- A conditional form of `n` bytes: taken when `cc` holds on F as it is, else only `PC <- pc_next` (46_control.md R153). -/
def State.whenCond (s : State) (cc : Cond) (n : Word) (taken : State) : State := if s.cond cc then taken else s.advance n

/-- A relative jump of `n` bytes: `pc <- wrap16(pc_next + s8(imm8))` (46_control.md R156). -/
def State.jumpRel (s : State) (n : Word) (e8 : Byte) : State := s.jumpTo (s.pcNext n + sext16 e8)

/-- A call of `n` bytes to `t`: `push16(pc_next); pc <- t` (46_control.md R161, R166). -/
def State.callTo (s : State) (n : Word) (t : Word) : State := (s.push16 (s.pcNext n)).jumpTo t

/-- A return: `pc <- pop16()` (46_control.md R163). -/
def State.returnPop (s : State) : State :=
  s.pop16.2.jumpTo s.pop16.1

/-- PUSH (46_control.md R167). -/
def State.pushPair (s : State) (n : Word) (p : Reg16) : State := (s.push16 (s.get16 p)).advance n

/-- POP: the pair is written after both reads (46_control.md R168, R169). -/
def State.popPair (s : State) (n : Word) (p : Reg16) : State :=
  (s.pop16.2.set16 p s.pop16.1).advance n

end Sys2Proof.Machine
end

