-- ==== Sys2Proof/Machine/Alu16.lean ====
section
/-! DEFINITION. 16-bit arithmetic and the SP-relative instructions (43_alu16.md).
Each meaning is one line over a shared operation and cites the rule it follows. -/

namespace Sys2Proof.Machine

/-- ADD HL, BC: R132. -/
def exec_add_HL_BC (s : State) : Result := .next (s.addHL 1 .BC)

/-- ADD HL, DE: R132. -/
def exec_add_HL_DE (s : State) : Result := .next (s.addHL 1 .DE)

/-- ADD HL, HL: R132. -/
def exec_add_HL_HL (s : State) : Result := .next (s.addHL 1 .HL)

/-- ADD HL, SP: R132. -/
def exec_add_HL_SP (s : State) : Result := .next (s.addHL 1 .SP)

/-- ADD SP, e8: R133. -/
def exec_add_SP_e8 (e8 : Byte) (s : State) : Result := .next (s.addSp 2 .SP e8)

/-- LD HL, SP+e8: R134. -/
def exec_ld_HL_SPe8 (e8 : Byte) (s : State) : Result := .next (s.addSp 2 .HL e8)

end Sys2Proof.Machine
end

