-- ==== Sys2Proof/Machine/Alu8.lean ====
section
/-! DEFINITION. The 8-bit ALU against the accumulator (42_alu8.md).
Each meaning is one line over a shared operation and cites the rule it follows. -/

namespace Sys2Proof.Machine

/-- ADD A, B: R124. -/
def exec_add_A_B (s : State) : Result := .next (s.alu 1 .ADD (.loc (.reg .B)))

/-- ADD A, C: R124. -/
def exec_add_A_C (s : State) : Result := .next (s.alu 1 .ADD (.loc (.reg .C)))

/-- ADD A, D: R124. -/
def exec_add_A_D (s : State) : Result := .next (s.alu 1 .ADD (.loc (.reg .D)))

/-- ADD A, E: R124. -/
def exec_add_A_E (s : State) : Result := .next (s.alu 1 .ADD (.loc (.reg .E)))

/-- ADD A, H: R124. -/
def exec_add_A_H (s : State) : Result := .next (s.alu 1 .ADD (.loc (.reg .H)))

/-- ADD A, L: R124. -/
def exec_add_A_L (s : State) : Result := .next (s.alu 1 .ADD (.loc (.reg .L)))

/-- ADD A, (HL): R124. -/
def exec_add_A_mHL (s : State) : Result := .next (s.alu 1 .ADD (.loc atHL))

/-- ADD A, A: R124. -/
def exec_add_A_A (s : State) : Result := .next (s.alu 1 .ADD (.loc (.reg .A)))

/-- ADC A, B: R125. -/
def exec_adc_A_B (s : State) : Result := .next (s.alu 1 .ADC (.loc (.reg .B)))

/-- ADC A, C: R125. -/
def exec_adc_A_C (s : State) : Result := .next (s.alu 1 .ADC (.loc (.reg .C)))

/-- ADC A, D: R125. -/
def exec_adc_A_D (s : State) : Result := .next (s.alu 1 .ADC (.loc (.reg .D)))

/-- ADC A, E: R125. -/
def exec_adc_A_E (s : State) : Result := .next (s.alu 1 .ADC (.loc (.reg .E)))

/-- ADC A, H: R125. -/
def exec_adc_A_H (s : State) : Result := .next (s.alu 1 .ADC (.loc (.reg .H)))

/-- ADC A, L: R125. -/
def exec_adc_A_L (s : State) : Result := .next (s.alu 1 .ADC (.loc (.reg .L)))

/-- ADC A, (HL): R125. -/
def exec_adc_A_mHL (s : State) : Result := .next (s.alu 1 .ADC (.loc atHL))

/-- ADC A, A: R125. -/
def exec_adc_A_A (s : State) : Result := .next (s.alu 1 .ADC (.loc (.reg .A)))

/-- SUB B: R126. -/
def exec_sub_B (s : State) : Result := .next (s.alu 1 .SUB (.loc (.reg .B)))

/-- SUB C: R126. -/
def exec_sub_C (s : State) : Result := .next (s.alu 1 .SUB (.loc (.reg .C)))

/-- SUB D: R126. -/
def exec_sub_D (s : State) : Result := .next (s.alu 1 .SUB (.loc (.reg .D)))

/-- SUB E: R126. -/
def exec_sub_E (s : State) : Result := .next (s.alu 1 .SUB (.loc (.reg .E)))

/-- SUB H: R126. -/
def exec_sub_H (s : State) : Result := .next (s.alu 1 .SUB (.loc (.reg .H)))

/-- SUB L: R126. -/
def exec_sub_L (s : State) : Result := .next (s.alu 1 .SUB (.loc (.reg .L)))

/-- SUB (HL): R126. -/
def exec_sub_mHL (s : State) : Result := .next (s.alu 1 .SUB (.loc atHL))

/-- SUB A: R126. -/
def exec_sub_A (s : State) : Result := .next (s.alu 1 .SUB (.loc (.reg .A)))

/-- SBC A, B: R127. -/
def exec_sbc_A_B (s : State) : Result := .next (s.alu 1 .SBC (.loc (.reg .B)))

/-- SBC A, C: R127. -/
def exec_sbc_A_C (s : State) : Result := .next (s.alu 1 .SBC (.loc (.reg .C)))

/-- SBC A, D: R127. -/
def exec_sbc_A_D (s : State) : Result := .next (s.alu 1 .SBC (.loc (.reg .D)))

/-- SBC A, E: R127. -/
def exec_sbc_A_E (s : State) : Result := .next (s.alu 1 .SBC (.loc (.reg .E)))

/-- SBC A, H: R127. -/
def exec_sbc_A_H (s : State) : Result := .next (s.alu 1 .SBC (.loc (.reg .H)))

/-- SBC A, L: R127. -/
def exec_sbc_A_L (s : State) : Result := .next (s.alu 1 .SBC (.loc (.reg .L)))

/-- SBC A, (HL): R127. -/
def exec_sbc_A_mHL (s : State) : Result := .next (s.alu 1 .SBC (.loc atHL))

/-- SBC A, A: R127. -/
def exec_sbc_A_A (s : State) : Result := .next (s.alu 1 .SBC (.loc (.reg .A)))

/-- AND B: R128. -/
def exec_and_B (s : State) : Result := .next (s.alu 1 .AND (.loc (.reg .B)))

/-- AND C: R128. -/
def exec_and_C (s : State) : Result := .next (s.alu 1 .AND (.loc (.reg .C)))

/-- AND D: R128. -/
def exec_and_D (s : State) : Result := .next (s.alu 1 .AND (.loc (.reg .D)))

/-- AND E: R128. -/
def exec_and_E (s : State) : Result := .next (s.alu 1 .AND (.loc (.reg .E)))

/-- AND H: R128. -/
def exec_and_H (s : State) : Result := .next (s.alu 1 .AND (.loc (.reg .H)))

/-- AND L: R128. -/
def exec_and_L (s : State) : Result := .next (s.alu 1 .AND (.loc (.reg .L)))

/-- AND (HL): R128. -/
def exec_and_mHL (s : State) : Result := .next (s.alu 1 .AND (.loc atHL))

/-- AND A: R128. -/
def exec_and_A (s : State) : Result := .next (s.alu 1 .AND (.loc (.reg .A)))

/-- XOR B: R129. -/
def exec_xor_B (s : State) : Result := .next (s.alu 1 .XOR (.loc (.reg .B)))

/-- XOR C: R129. -/
def exec_xor_C (s : State) : Result := .next (s.alu 1 .XOR (.loc (.reg .C)))

/-- XOR D: R129. -/
def exec_xor_D (s : State) : Result := .next (s.alu 1 .XOR (.loc (.reg .D)))

/-- XOR E: R129. -/
def exec_xor_E (s : State) : Result := .next (s.alu 1 .XOR (.loc (.reg .E)))

/-- XOR H: R129. -/
def exec_xor_H (s : State) : Result := .next (s.alu 1 .XOR (.loc (.reg .H)))

/-- XOR L: R129. -/
def exec_xor_L (s : State) : Result := .next (s.alu 1 .XOR (.loc (.reg .L)))

/-- XOR (HL): R129. -/
def exec_xor_mHL (s : State) : Result := .next (s.alu 1 .XOR (.loc atHL))

/-- XOR A: R129. -/
def exec_xor_A (s : State) : Result := .next (s.alu 1 .XOR (.loc (.reg .A)))

/-- OR B: R130. -/
def exec_or_B (s : State) : Result := .next (s.alu 1 .OR (.loc (.reg .B)))

/-- OR C: R130. -/
def exec_or_C (s : State) : Result := .next (s.alu 1 .OR (.loc (.reg .C)))

/-- OR D: R130. -/
def exec_or_D (s : State) : Result := .next (s.alu 1 .OR (.loc (.reg .D)))

/-- OR E: R130. -/
def exec_or_E (s : State) : Result := .next (s.alu 1 .OR (.loc (.reg .E)))

/-- OR H: R130. -/
def exec_or_H (s : State) : Result := .next (s.alu 1 .OR (.loc (.reg .H)))

/-- OR L: R130. -/
def exec_or_L (s : State) : Result := .next (s.alu 1 .OR (.loc (.reg .L)))

/-- OR (HL): R130. -/
def exec_or_mHL (s : State) : Result := .next (s.alu 1 .OR (.loc atHL))

/-- OR A: R130. -/
def exec_or_A (s : State) : Result := .next (s.alu 1 .OR (.loc (.reg .A)))

/-- CP B: R131. -/
def exec_cp_B (s : State) : Result := .next (s.alu 1 .CP (.loc (.reg .B)))

/-- CP C: R131. -/
def exec_cp_C (s : State) : Result := .next (s.alu 1 .CP (.loc (.reg .C)))

/-- CP D: R131. -/
def exec_cp_D (s : State) : Result := .next (s.alu 1 .CP (.loc (.reg .D)))

/-- CP E: R131. -/
def exec_cp_E (s : State) : Result := .next (s.alu 1 .CP (.loc (.reg .E)))

/-- CP H: R131. -/
def exec_cp_H (s : State) : Result := .next (s.alu 1 .CP (.loc (.reg .H)))

/-- CP L: R131. -/
def exec_cp_L (s : State) : Result := .next (s.alu 1 .CP (.loc (.reg .L)))

/-- CP (HL): R131. -/
def exec_cp_mHL (s : State) : Result := .next (s.alu 1 .CP (.loc atHL))

/-- CP A: R131. -/
def exec_cp_A (s : State) : Result := .next (s.alu 1 .CP (.loc (.reg .A)))

/-- ADD A, d8: R124. -/
def exec_add_A_d8 (d8 : Byte) (s : State) : Result := .next (s.alu 2 .ADD (.imm d8))

/-- ADC A, d8: R125. -/
def exec_adc_A_d8 (d8 : Byte) (s : State) : Result := .next (s.alu 2 .ADC (.imm d8))

/-- SUB d8: R126. -/
def exec_sub_d8 (d8 : Byte) (s : State) : Result := .next (s.alu 2 .SUB (.imm d8))

/-- SBC A, d8: R127. -/
def exec_sbc_A_d8 (d8 : Byte) (s : State) : Result := .next (s.alu 2 .SBC (.imm d8))

/-- AND d8: R128. -/
def exec_and_d8 (d8 : Byte) (s : State) : Result := .next (s.alu 2 .AND (.imm d8))

/-- XOR d8: R129. -/
def exec_xor_d8 (d8 : Byte) (s : State) : Result := .next (s.alu 2 .XOR (.imm d8))

/-- OR d8: R130. -/
def exec_or_d8 (d8 : Byte) (s : State) : Result := .next (s.alu 2 .OR (.imm d8))

/-- CP d8: R131. -/
def exec_cp_d8 (d8 : Byte) (s : State) : Result := .next (s.alu 2 .CP (.imm d8))

end Sys2Proof.Machine
end

