-- ==== Sys2Proof/Machine/Bits.lean ====
section
/-! DEFINITION. Bit test, reset and set (45_bit.md).
Each meaning is one line over a shared operation and cites the rule it follows. -/

namespace Sys2Proof.Machine

/-- BIT 0, B: R149. -/
def exec_bit_0_B (s : State) : Result := .next (s.testBit 2 .o0 (.reg .B))

/-- BIT 0, C: R149. -/
def exec_bit_0_C (s : State) : Result := .next (s.testBit 2 .o0 (.reg .C))

/-- BIT 0, D: R149. -/
def exec_bit_0_D (s : State) : Result := .next (s.testBit 2 .o0 (.reg .D))

/-- BIT 0, E: R149. -/
def exec_bit_0_E (s : State) : Result := .next (s.testBit 2 .o0 (.reg .E))

/-- BIT 0, H: R149. -/
def exec_bit_0_H (s : State) : Result := .next (s.testBit 2 .o0 (.reg .H))

/-- BIT 0, L: R149. -/
def exec_bit_0_L (s : State) : Result := .next (s.testBit 2 .o0 (.reg .L))

/-- BIT 0, (HL): R149. -/
def exec_bit_0_mHL (s : State) : Result := .next (s.testBit 2 .o0 atHL)

/-- BIT 0, A: R149. -/
def exec_bit_0_A (s : State) : Result := .next (s.testBit 2 .o0 (.reg .A))

/-- BIT 1, B: R149. -/
def exec_bit_1_B (s : State) : Result := .next (s.testBit 2 .o1 (.reg .B))

/-- BIT 1, C: R149. -/
def exec_bit_1_C (s : State) : Result := .next (s.testBit 2 .o1 (.reg .C))

/-- BIT 1, D: R149. -/
def exec_bit_1_D (s : State) : Result := .next (s.testBit 2 .o1 (.reg .D))

/-- BIT 1, E: R149. -/
def exec_bit_1_E (s : State) : Result := .next (s.testBit 2 .o1 (.reg .E))

/-- BIT 1, H: R149. -/
def exec_bit_1_H (s : State) : Result := .next (s.testBit 2 .o1 (.reg .H))

/-- BIT 1, L: R149. -/
def exec_bit_1_L (s : State) : Result := .next (s.testBit 2 .o1 (.reg .L))

/-- BIT 1, (HL): R149. -/
def exec_bit_1_mHL (s : State) : Result := .next (s.testBit 2 .o1 atHL)

/-- BIT 1, A: R149. -/
def exec_bit_1_A (s : State) : Result := .next (s.testBit 2 .o1 (.reg .A))

/-- BIT 2, B: R149. -/
def exec_bit_2_B (s : State) : Result := .next (s.testBit 2 .o2 (.reg .B))

/-- BIT 2, C: R149. -/
def exec_bit_2_C (s : State) : Result := .next (s.testBit 2 .o2 (.reg .C))

/-- BIT 2, D: R149. -/
def exec_bit_2_D (s : State) : Result := .next (s.testBit 2 .o2 (.reg .D))

/-- BIT 2, E: R149. -/
def exec_bit_2_E (s : State) : Result := .next (s.testBit 2 .o2 (.reg .E))

/-- BIT 2, H: R149. -/
def exec_bit_2_H (s : State) : Result := .next (s.testBit 2 .o2 (.reg .H))

/-- BIT 2, L: R149. -/
def exec_bit_2_L (s : State) : Result := .next (s.testBit 2 .o2 (.reg .L))

/-- BIT 2, (HL): R149. -/
def exec_bit_2_mHL (s : State) : Result := .next (s.testBit 2 .o2 atHL)

/-- BIT 2, A: R149. -/
def exec_bit_2_A (s : State) : Result := .next (s.testBit 2 .o2 (.reg .A))

/-- BIT 3, B: R149. -/
def exec_bit_3_B (s : State) : Result := .next (s.testBit 2 .o3 (.reg .B))

/-- BIT 3, C: R149. -/
def exec_bit_3_C (s : State) : Result := .next (s.testBit 2 .o3 (.reg .C))

/-- BIT 3, D: R149. -/
def exec_bit_3_D (s : State) : Result := .next (s.testBit 2 .o3 (.reg .D))

/-- BIT 3, E: R149. -/
def exec_bit_3_E (s : State) : Result := .next (s.testBit 2 .o3 (.reg .E))

/-- BIT 3, H: R149. -/
def exec_bit_3_H (s : State) : Result := .next (s.testBit 2 .o3 (.reg .H))

/-- BIT 3, L: R149. -/
def exec_bit_3_L (s : State) : Result := .next (s.testBit 2 .o3 (.reg .L))

/-- BIT 3, (HL): R149. -/
def exec_bit_3_mHL (s : State) : Result := .next (s.testBit 2 .o3 atHL)

/-- BIT 3, A: R149. -/
def exec_bit_3_A (s : State) : Result := .next (s.testBit 2 .o3 (.reg .A))

/-- BIT 4, B: R149. -/
def exec_bit_4_B (s : State) : Result := .next (s.testBit 2 .o4 (.reg .B))

/-- BIT 4, C: R149. -/
def exec_bit_4_C (s : State) : Result := .next (s.testBit 2 .o4 (.reg .C))

/-- BIT 4, D: R149. -/
def exec_bit_4_D (s : State) : Result := .next (s.testBit 2 .o4 (.reg .D))

/-- BIT 4, E: R149. -/
def exec_bit_4_E (s : State) : Result := .next (s.testBit 2 .o4 (.reg .E))

/-- BIT 4, H: R149. -/
def exec_bit_4_H (s : State) : Result := .next (s.testBit 2 .o4 (.reg .H))

/-- BIT 4, L: R149. -/
def exec_bit_4_L (s : State) : Result := .next (s.testBit 2 .o4 (.reg .L))

/-- BIT 4, (HL): R149. -/
def exec_bit_4_mHL (s : State) : Result := .next (s.testBit 2 .o4 atHL)

/-- BIT 4, A: R149. -/
def exec_bit_4_A (s : State) : Result := .next (s.testBit 2 .o4 (.reg .A))

/-- BIT 5, B: R149. -/
def exec_bit_5_B (s : State) : Result := .next (s.testBit 2 .o5 (.reg .B))

/-- BIT 5, C: R149. -/
def exec_bit_5_C (s : State) : Result := .next (s.testBit 2 .o5 (.reg .C))

/-- BIT 5, D: R149. -/
def exec_bit_5_D (s : State) : Result := .next (s.testBit 2 .o5 (.reg .D))

/-- BIT 5, E: R149. -/
def exec_bit_5_E (s : State) : Result := .next (s.testBit 2 .o5 (.reg .E))

/-- BIT 5, H: R149. -/
def exec_bit_5_H (s : State) : Result := .next (s.testBit 2 .o5 (.reg .H))

/-- BIT 5, L: R149. -/
def exec_bit_5_L (s : State) : Result := .next (s.testBit 2 .o5 (.reg .L))

/-- BIT 5, (HL): R149. -/
def exec_bit_5_mHL (s : State) : Result := .next (s.testBit 2 .o5 atHL)

/-- BIT 5, A: R149. -/
def exec_bit_5_A (s : State) : Result := .next (s.testBit 2 .o5 (.reg .A))

/-- BIT 6, B: R149. -/
def exec_bit_6_B (s : State) : Result := .next (s.testBit 2 .o6 (.reg .B))

/-- BIT 6, C: R149. -/
def exec_bit_6_C (s : State) : Result := .next (s.testBit 2 .o6 (.reg .C))

/-- BIT 6, D: R149. -/
def exec_bit_6_D (s : State) : Result := .next (s.testBit 2 .o6 (.reg .D))

/-- BIT 6, E: R149. -/
def exec_bit_6_E (s : State) : Result := .next (s.testBit 2 .o6 (.reg .E))

/-- BIT 6, H: R149. -/
def exec_bit_6_H (s : State) : Result := .next (s.testBit 2 .o6 (.reg .H))

/-- BIT 6, L: R149. -/
def exec_bit_6_L (s : State) : Result := .next (s.testBit 2 .o6 (.reg .L))

/-- BIT 6, (HL): R149. -/
def exec_bit_6_mHL (s : State) : Result := .next (s.testBit 2 .o6 atHL)

/-- BIT 6, A: R149. -/
def exec_bit_6_A (s : State) : Result := .next (s.testBit 2 .o6 (.reg .A))

/-- BIT 7, B: R149. -/
def exec_bit_7_B (s : State) : Result := .next (s.testBit 2 .o7 (.reg .B))

/-- BIT 7, C: R149. -/
def exec_bit_7_C (s : State) : Result := .next (s.testBit 2 .o7 (.reg .C))

/-- BIT 7, D: R149. -/
def exec_bit_7_D (s : State) : Result := .next (s.testBit 2 .o7 (.reg .D))

/-- BIT 7, E: R149. -/
def exec_bit_7_E (s : State) : Result := .next (s.testBit 2 .o7 (.reg .E))

/-- BIT 7, H: R149. -/
def exec_bit_7_H (s : State) : Result := .next (s.testBit 2 .o7 (.reg .H))

/-- BIT 7, L: R149. -/
def exec_bit_7_L (s : State) : Result := .next (s.testBit 2 .o7 (.reg .L))

/-- BIT 7, (HL): R149. -/
def exec_bit_7_mHL (s : State) : Result := .next (s.testBit 2 .o7 atHL)

/-- BIT 7, A: R149. -/
def exec_bit_7_A (s : State) : Result := .next (s.testBit 2 .o7 (.reg .A))

/-- RES 0, B: R150. -/
def exec_res_0_B (s : State) : Result := .next (s.rewrite8 2 (.reg .B) (resetBit .o0))

/-- RES 0, C: R150. -/
def exec_res_0_C (s : State) : Result := .next (s.rewrite8 2 (.reg .C) (resetBit .o0))

/-- RES 0, D: R150. -/
def exec_res_0_D (s : State) : Result := .next (s.rewrite8 2 (.reg .D) (resetBit .o0))

/-- RES 0, E: R150. -/
def exec_res_0_E (s : State) : Result := .next (s.rewrite8 2 (.reg .E) (resetBit .o0))

/-- RES 0, H: R150. -/
def exec_res_0_H (s : State) : Result := .next (s.rewrite8 2 (.reg .H) (resetBit .o0))

/-- RES 0, L: R150. -/
def exec_res_0_L (s : State) : Result := .next (s.rewrite8 2 (.reg .L) (resetBit .o0))

/-- RES 0, (HL): R150. -/
def exec_res_0_mHL (s : State) : Result := .next (s.rewrite8 2 atHL (resetBit .o0))

/-- RES 0, A: R150. -/
def exec_res_0_A (s : State) : Result := .next (s.rewrite8 2 (.reg .A) (resetBit .o0))

/-- RES 1, B: R150. -/
def exec_res_1_B (s : State) : Result := .next (s.rewrite8 2 (.reg .B) (resetBit .o1))

/-- RES 1, C: R150. -/
def exec_res_1_C (s : State) : Result := .next (s.rewrite8 2 (.reg .C) (resetBit .o1))

/-- RES 1, D: R150. -/
def exec_res_1_D (s : State) : Result := .next (s.rewrite8 2 (.reg .D) (resetBit .o1))

/-- RES 1, E: R150. -/
def exec_res_1_E (s : State) : Result := .next (s.rewrite8 2 (.reg .E) (resetBit .o1))

/-- RES 1, H: R150. -/
def exec_res_1_H (s : State) : Result := .next (s.rewrite8 2 (.reg .H) (resetBit .o1))

/-- RES 1, L: R150. -/
def exec_res_1_L (s : State) : Result := .next (s.rewrite8 2 (.reg .L) (resetBit .o1))

/-- RES 1, (HL): R150. -/
def exec_res_1_mHL (s : State) : Result := .next (s.rewrite8 2 atHL (resetBit .o1))

/-- RES 1, A: R150. -/
def exec_res_1_A (s : State) : Result := .next (s.rewrite8 2 (.reg .A) (resetBit .o1))

/-- RES 2, B: R150. -/
def exec_res_2_B (s : State) : Result := .next (s.rewrite8 2 (.reg .B) (resetBit .o2))

/-- RES 2, C: R150. -/
def exec_res_2_C (s : State) : Result := .next (s.rewrite8 2 (.reg .C) (resetBit .o2))

/-- RES 2, D: R150. -/
def exec_res_2_D (s : State) : Result := .next (s.rewrite8 2 (.reg .D) (resetBit .o2))

/-- RES 2, E: R150. -/
def exec_res_2_E (s : State) : Result := .next (s.rewrite8 2 (.reg .E) (resetBit .o2))

/-- RES 2, H: R150. -/
def exec_res_2_H (s : State) : Result := .next (s.rewrite8 2 (.reg .H) (resetBit .o2))

/-- RES 2, L: R150. -/
def exec_res_2_L (s : State) : Result := .next (s.rewrite8 2 (.reg .L) (resetBit .o2))

/-- RES 2, (HL): R150. -/
def exec_res_2_mHL (s : State) : Result := .next (s.rewrite8 2 atHL (resetBit .o2))

/-- RES 2, A: R150. -/
def exec_res_2_A (s : State) : Result := .next (s.rewrite8 2 (.reg .A) (resetBit .o2))

/-- RES 3, B: R150. -/
def exec_res_3_B (s : State) : Result := .next (s.rewrite8 2 (.reg .B) (resetBit .o3))

/-- RES 3, C: R150. -/
def exec_res_3_C (s : State) : Result := .next (s.rewrite8 2 (.reg .C) (resetBit .o3))

/-- RES 3, D: R150. -/
def exec_res_3_D (s : State) : Result := .next (s.rewrite8 2 (.reg .D) (resetBit .o3))

/-- RES 3, E: R150. -/
def exec_res_3_E (s : State) : Result := .next (s.rewrite8 2 (.reg .E) (resetBit .o3))

/-- RES 3, H: R150. -/
def exec_res_3_H (s : State) : Result := .next (s.rewrite8 2 (.reg .H) (resetBit .o3))

/-- RES 3, L: R150. -/
def exec_res_3_L (s : State) : Result := .next (s.rewrite8 2 (.reg .L) (resetBit .o3))

/-- RES 3, (HL): R150. -/
def exec_res_3_mHL (s : State) : Result := .next (s.rewrite8 2 atHL (resetBit .o3))

/-- RES 3, A: R150. -/
def exec_res_3_A (s : State) : Result := .next (s.rewrite8 2 (.reg .A) (resetBit .o3))

/-- RES 4, B: R150. -/
def exec_res_4_B (s : State) : Result := .next (s.rewrite8 2 (.reg .B) (resetBit .o4))

/-- RES 4, C: R150. -/
def exec_res_4_C (s : State) : Result := .next (s.rewrite8 2 (.reg .C) (resetBit .o4))

/-- RES 4, D: R150. -/
def exec_res_4_D (s : State) : Result := .next (s.rewrite8 2 (.reg .D) (resetBit .o4))

/-- RES 4, E: R150. -/
def exec_res_4_E (s : State) : Result := .next (s.rewrite8 2 (.reg .E) (resetBit .o4))

/-- RES 4, H: R150. -/
def exec_res_4_H (s : State) : Result := .next (s.rewrite8 2 (.reg .H) (resetBit .o4))

/-- RES 4, L: R150. -/
def exec_res_4_L (s : State) : Result := .next (s.rewrite8 2 (.reg .L) (resetBit .o4))

/-- RES 4, (HL): R150. -/
def exec_res_4_mHL (s : State) : Result := .next (s.rewrite8 2 atHL (resetBit .o4))

/-- RES 4, A: R150. -/
def exec_res_4_A (s : State) : Result := .next (s.rewrite8 2 (.reg .A) (resetBit .o4))

/-- RES 5, B: R150. -/
def exec_res_5_B (s : State) : Result := .next (s.rewrite8 2 (.reg .B) (resetBit .o5))

/-- RES 5, C: R150. -/
def exec_res_5_C (s : State) : Result := .next (s.rewrite8 2 (.reg .C) (resetBit .o5))

/-- RES 5, D: R150. -/
def exec_res_5_D (s : State) : Result := .next (s.rewrite8 2 (.reg .D) (resetBit .o5))

/-- RES 5, E: R150. -/
def exec_res_5_E (s : State) : Result := .next (s.rewrite8 2 (.reg .E) (resetBit .o5))

/-- RES 5, H: R150. -/
def exec_res_5_H (s : State) : Result := .next (s.rewrite8 2 (.reg .H) (resetBit .o5))

/-- RES 5, L: R150. -/
def exec_res_5_L (s : State) : Result := .next (s.rewrite8 2 (.reg .L) (resetBit .o5))

/-- RES 5, (HL): R150. -/
def exec_res_5_mHL (s : State) : Result := .next (s.rewrite8 2 atHL (resetBit .o5))

/-- RES 5, A: R150. -/
def exec_res_5_A (s : State) : Result := .next (s.rewrite8 2 (.reg .A) (resetBit .o5))

/-- RES 6, B: R150. -/
def exec_res_6_B (s : State) : Result := .next (s.rewrite8 2 (.reg .B) (resetBit .o6))

/-- RES 6, C: R150. -/
def exec_res_6_C (s : State) : Result := .next (s.rewrite8 2 (.reg .C) (resetBit .o6))

/-- RES 6, D: R150. -/
def exec_res_6_D (s : State) : Result := .next (s.rewrite8 2 (.reg .D) (resetBit .o6))

/-- RES 6, E: R150. -/
def exec_res_6_E (s : State) : Result := .next (s.rewrite8 2 (.reg .E) (resetBit .o6))

/-- RES 6, H: R150. -/
def exec_res_6_H (s : State) : Result := .next (s.rewrite8 2 (.reg .H) (resetBit .o6))

/-- RES 6, L: R150. -/
def exec_res_6_L (s : State) : Result := .next (s.rewrite8 2 (.reg .L) (resetBit .o6))

/-- RES 6, (HL): R150. -/
def exec_res_6_mHL (s : State) : Result := .next (s.rewrite8 2 atHL (resetBit .o6))

/-- RES 6, A: R150. -/
def exec_res_6_A (s : State) : Result := .next (s.rewrite8 2 (.reg .A) (resetBit .o6))

/-- RES 7, B: R150. -/
def exec_res_7_B (s : State) : Result := .next (s.rewrite8 2 (.reg .B) (resetBit .o7))

/-- RES 7, C: R150. -/
def exec_res_7_C (s : State) : Result := .next (s.rewrite8 2 (.reg .C) (resetBit .o7))

/-- RES 7, D: R150. -/
def exec_res_7_D (s : State) : Result := .next (s.rewrite8 2 (.reg .D) (resetBit .o7))

/-- RES 7, E: R150. -/
def exec_res_7_E (s : State) : Result := .next (s.rewrite8 2 (.reg .E) (resetBit .o7))

/-- RES 7, H: R150. -/
def exec_res_7_H (s : State) : Result := .next (s.rewrite8 2 (.reg .H) (resetBit .o7))

/-- RES 7, L: R150. -/
def exec_res_7_L (s : State) : Result := .next (s.rewrite8 2 (.reg .L) (resetBit .o7))

/-- RES 7, (HL): R150. -/
def exec_res_7_mHL (s : State) : Result := .next (s.rewrite8 2 atHL (resetBit .o7))

/-- RES 7, A: R150. -/
def exec_res_7_A (s : State) : Result := .next (s.rewrite8 2 (.reg .A) (resetBit .o7))

/-- SET 0, B: R151. -/
def exec_set_0_B (s : State) : Result := .next (s.rewrite8 2 (.reg .B) (setBit .o0))

/-- SET 0, C: R151. -/
def exec_set_0_C (s : State) : Result := .next (s.rewrite8 2 (.reg .C) (setBit .o0))

/-- SET 0, D: R151. -/
def exec_set_0_D (s : State) : Result := .next (s.rewrite8 2 (.reg .D) (setBit .o0))

/-- SET 0, E: R151. -/
def exec_set_0_E (s : State) : Result := .next (s.rewrite8 2 (.reg .E) (setBit .o0))

/-- SET 0, H: R151. -/
def exec_set_0_H (s : State) : Result := .next (s.rewrite8 2 (.reg .H) (setBit .o0))

/-- SET 0, L: R151. -/
def exec_set_0_L (s : State) : Result := .next (s.rewrite8 2 (.reg .L) (setBit .o0))

/-- SET 0, (HL): R151. -/
def exec_set_0_mHL (s : State) : Result := .next (s.rewrite8 2 atHL (setBit .o0))

/-- SET 0, A: R151. -/
def exec_set_0_A (s : State) : Result := .next (s.rewrite8 2 (.reg .A) (setBit .o0))

/-- SET 1, B: R151. -/
def exec_set_1_B (s : State) : Result := .next (s.rewrite8 2 (.reg .B) (setBit .o1))

/-- SET 1, C: R151. -/
def exec_set_1_C (s : State) : Result := .next (s.rewrite8 2 (.reg .C) (setBit .o1))

/-- SET 1, D: R151. -/
def exec_set_1_D (s : State) : Result := .next (s.rewrite8 2 (.reg .D) (setBit .o1))

/-- SET 1, E: R151. -/
def exec_set_1_E (s : State) : Result := .next (s.rewrite8 2 (.reg .E) (setBit .o1))

/-- SET 1, H: R151. -/
def exec_set_1_H (s : State) : Result := .next (s.rewrite8 2 (.reg .H) (setBit .o1))

/-- SET 1, L: R151. -/
def exec_set_1_L (s : State) : Result := .next (s.rewrite8 2 (.reg .L) (setBit .o1))

/-- SET 1, (HL): R151. -/
def exec_set_1_mHL (s : State) : Result := .next (s.rewrite8 2 atHL (setBit .o1))

/-- SET 1, A: R151. -/
def exec_set_1_A (s : State) : Result := .next (s.rewrite8 2 (.reg .A) (setBit .o1))

/-- SET 2, B: R151. -/
def exec_set_2_B (s : State) : Result := .next (s.rewrite8 2 (.reg .B) (setBit .o2))

/-- SET 2, C: R151. -/
def exec_set_2_C (s : State) : Result := .next (s.rewrite8 2 (.reg .C) (setBit .o2))

/-- SET 2, D: R151. -/
def exec_set_2_D (s : State) : Result := .next (s.rewrite8 2 (.reg .D) (setBit .o2))

/-- SET 2, E: R151. -/
def exec_set_2_E (s : State) : Result := .next (s.rewrite8 2 (.reg .E) (setBit .o2))

/-- SET 2, H: R151. -/
def exec_set_2_H (s : State) : Result := .next (s.rewrite8 2 (.reg .H) (setBit .o2))

/-- SET 2, L: R151. -/
def exec_set_2_L (s : State) : Result := .next (s.rewrite8 2 (.reg .L) (setBit .o2))

/-- SET 2, (HL): R151. -/
def exec_set_2_mHL (s : State) : Result := .next (s.rewrite8 2 atHL (setBit .o2))

/-- SET 2, A: R151. -/
def exec_set_2_A (s : State) : Result := .next (s.rewrite8 2 (.reg .A) (setBit .o2))

/-- SET 3, B: R151. -/
def exec_set_3_B (s : State) : Result := .next (s.rewrite8 2 (.reg .B) (setBit .o3))

/-- SET 3, C: R151. -/
def exec_set_3_C (s : State) : Result := .next (s.rewrite8 2 (.reg .C) (setBit .o3))

/-- SET 3, D: R151. -/
def exec_set_3_D (s : State) : Result := .next (s.rewrite8 2 (.reg .D) (setBit .o3))

/-- SET 3, E: R151. -/
def exec_set_3_E (s : State) : Result := .next (s.rewrite8 2 (.reg .E) (setBit .o3))

/-- SET 3, H: R151. -/
def exec_set_3_H (s : State) : Result := .next (s.rewrite8 2 (.reg .H) (setBit .o3))

/-- SET 3, L: R151. -/
def exec_set_3_L (s : State) : Result := .next (s.rewrite8 2 (.reg .L) (setBit .o3))

/-- SET 3, (HL): R151. -/
def exec_set_3_mHL (s : State) : Result := .next (s.rewrite8 2 atHL (setBit .o3))

/-- SET 3, A: R151. -/
def exec_set_3_A (s : State) : Result := .next (s.rewrite8 2 (.reg .A) (setBit .o3))

/-- SET 4, B: R151. -/
def exec_set_4_B (s : State) : Result := .next (s.rewrite8 2 (.reg .B) (setBit .o4))

/-- SET 4, C: R151. -/
def exec_set_4_C (s : State) : Result := .next (s.rewrite8 2 (.reg .C) (setBit .o4))

/-- SET 4, D: R151. -/
def exec_set_4_D (s : State) : Result := .next (s.rewrite8 2 (.reg .D) (setBit .o4))

/-- SET 4, E: R151. -/
def exec_set_4_E (s : State) : Result := .next (s.rewrite8 2 (.reg .E) (setBit .o4))

/-- SET 4, H: R151. -/
def exec_set_4_H (s : State) : Result := .next (s.rewrite8 2 (.reg .H) (setBit .o4))

/-- SET 4, L: R151. -/
def exec_set_4_L (s : State) : Result := .next (s.rewrite8 2 (.reg .L) (setBit .o4))

/-- SET 4, (HL): R151. -/
def exec_set_4_mHL (s : State) : Result := .next (s.rewrite8 2 atHL (setBit .o4))

/-- SET 4, A: R151. -/
def exec_set_4_A (s : State) : Result := .next (s.rewrite8 2 (.reg .A) (setBit .o4))

/-- SET 5, B: R151. -/
def exec_set_5_B (s : State) : Result := .next (s.rewrite8 2 (.reg .B) (setBit .o5))

/-- SET 5, C: R151. -/
def exec_set_5_C (s : State) : Result := .next (s.rewrite8 2 (.reg .C) (setBit .o5))

/-- SET 5, D: R151. -/
def exec_set_5_D (s : State) : Result := .next (s.rewrite8 2 (.reg .D) (setBit .o5))

/-- SET 5, E: R151. -/
def exec_set_5_E (s : State) : Result := .next (s.rewrite8 2 (.reg .E) (setBit .o5))

/-- SET 5, H: R151. -/
def exec_set_5_H (s : State) : Result := .next (s.rewrite8 2 (.reg .H) (setBit .o5))

/-- SET 5, L: R151. -/
def exec_set_5_L (s : State) : Result := .next (s.rewrite8 2 (.reg .L) (setBit .o5))

/-- SET 5, (HL): R151. -/
def exec_set_5_mHL (s : State) : Result := .next (s.rewrite8 2 atHL (setBit .o5))

/-- SET 5, A: R151. -/
def exec_set_5_A (s : State) : Result := .next (s.rewrite8 2 (.reg .A) (setBit .o5))

/-- SET 6, B: R151. -/
def exec_set_6_B (s : State) : Result := .next (s.rewrite8 2 (.reg .B) (setBit .o6))

/-- SET 6, C: R151. -/
def exec_set_6_C (s : State) : Result := .next (s.rewrite8 2 (.reg .C) (setBit .o6))

/-- SET 6, D: R151. -/
def exec_set_6_D (s : State) : Result := .next (s.rewrite8 2 (.reg .D) (setBit .o6))

/-- SET 6, E: R151. -/
def exec_set_6_E (s : State) : Result := .next (s.rewrite8 2 (.reg .E) (setBit .o6))

/-- SET 6, H: R151. -/
def exec_set_6_H (s : State) : Result := .next (s.rewrite8 2 (.reg .H) (setBit .o6))

/-- SET 6, L: R151. -/
def exec_set_6_L (s : State) : Result := .next (s.rewrite8 2 (.reg .L) (setBit .o6))

/-- SET 6, (HL): R151. -/
def exec_set_6_mHL (s : State) : Result := .next (s.rewrite8 2 atHL (setBit .o6))

/-- SET 6, A: R151. -/
def exec_set_6_A (s : State) : Result := .next (s.rewrite8 2 (.reg .A) (setBit .o6))

/-- SET 7, B: R151. -/
def exec_set_7_B (s : State) : Result := .next (s.rewrite8 2 (.reg .B) (setBit .o7))

/-- SET 7, C: R151. -/
def exec_set_7_C (s : State) : Result := .next (s.rewrite8 2 (.reg .C) (setBit .o7))

/-- SET 7, D: R151. -/
def exec_set_7_D (s : State) : Result := .next (s.rewrite8 2 (.reg .D) (setBit .o7))

/-- SET 7, E: R151. -/
def exec_set_7_E (s : State) : Result := .next (s.rewrite8 2 (.reg .E) (setBit .o7))

/-- SET 7, H: R151. -/
def exec_set_7_H (s : State) : Result := .next (s.rewrite8 2 (.reg .H) (setBit .o7))

/-- SET 7, L: R151. -/
def exec_set_7_L (s : State) : Result := .next (s.rewrite8 2 (.reg .L) (setBit .o7))

/-- SET 7, (HL): R151. -/
def exec_set_7_mHL (s : State) : Result := .next (s.rewrite8 2 atHL (setBit .o7))

/-- SET 7, A: R151. -/
def exec_set_7_A (s : State) : Result := .next (s.rewrite8 2 (.reg .A) (setBit .o7))

end Sys2Proof.Machine
end

