-- ==== Sys2Proof/Machine/Control.lean ====
section
/-! DEFINITION. Control transfer and the stack (46_control.md).
Each meaning is one line over a shared operation and cites the rule it follows. -/

namespace Sys2Proof.Machine

/-- JR e8: R156. -/
def exec_jr (e8 : Byte) (s : State) : Result := .next (s.jumpRel 2 e8)

/-- JR NZ, e8: R157. -/
def exec_jr_NZ (e8 : Byte) (s : State) : Result := .next (s.whenCond condNZ 2 (s.jumpRel 2 e8))

/-- JR Z, e8: R157. -/
def exec_jr_Z (e8 : Byte) (s : State) : Result := .next (s.whenCond condZ 2 (s.jumpRel 2 e8))

/-- JR NC, e8: R157. -/
def exec_jr_NC (e8 : Byte) (s : State) : Result := .next (s.whenCond condNC 2 (s.jumpRel 2 e8))

/-- JR C, e8: R157. -/
def exec_jr_C (e8 : Byte) (s : State) : Result := .next (s.whenCond condC 2 (s.jumpRel 2 e8))

/-- RET NZ: R164. -/
def exec_ret_NZ (s : State) : Result := .next (s.whenCond condNZ 1 s.returnPop)

/-- POP BC: R168. -/
def exec_pop_BC (s : State) : Result := .next (s.popPair 1 .BC)

/-- JP NZ, a16: R159. -/
def exec_jp_NZ (a16 : Word) (s : State) : Result := .next (s.whenCond condNZ 3 (s.jumpTo a16))

/-- JP a16: R158. -/
def exec_jp (a16 : Word) (s : State) : Result := .next (s.jumpTo a16)

/-- CALL NZ, a16: R162. -/
def exec_call_NZ (a16 : Word) (s : State) : Result := .next (s.whenCond condNZ 3 (s.callTo 3 a16))

/-- PUSH BC: R167. -/
def exec_push_BC (s : State) : Result := .next (s.pushPair 1 .BC)

/-- RST 00H: R166. -/
def exec_rst_00 (s : State) : Result := .next (s.callTo 1 0x00)

/-- RET Z: R164. -/
def exec_ret_Z (s : State) : Result := .next (s.whenCond condZ 1 s.returnPop)

/-- RET: R163. -/
def exec_ret (s : State) : Result := .next (s.returnPop)

/-- JP Z, a16: R159. -/
def exec_jp_Z (a16 : Word) (s : State) : Result := .next (s.whenCond condZ 3 (s.jumpTo a16))

/-- CALL Z, a16: R162. -/
def exec_call_Z (a16 : Word) (s : State) : Result := .next (s.whenCond condZ 3 (s.callTo 3 a16))

/-- CALL a16: R161. -/
def exec_call (a16 : Word) (s : State) : Result := .next (s.callTo 3 a16)

/-- RST 08H: R166. -/
def exec_rst_08 (s : State) : Result := .next (s.callTo 1 0x08)

/-- RET NC: R164. -/
def exec_ret_NC (s : State) : Result := .next (s.whenCond condNC 1 s.returnPop)

/-- POP DE: R168. -/
def exec_pop_DE (s : State) : Result := .next (s.popPair 1 .DE)

/-- JP NC, a16: R159. -/
def exec_jp_NC (a16 : Word) (s : State) : Result := .next (s.whenCond condNC 3 (s.jumpTo a16))

/-- CALL NC, a16: R162. -/
def exec_call_NC (a16 : Word) (s : State) : Result := .next (s.whenCond condNC 3 (s.callTo 3 a16))

/-- PUSH DE: R167. -/
def exec_push_DE (s : State) : Result := .next (s.pushPair 1 .DE)

/-- RST 10H: R166. -/
def exec_rst_10 (s : State) : Result := .next (s.callTo 1 0x10)

/-- RET C: R164. -/
def exec_ret_C (s : State) : Result := .next (s.whenCond condC 1 s.returnPop)

/-- RETI: R165. -/
def exec_reti (s : State) : Result := .next (s.returnIrq)

/-- JP C, a16: R159. -/
def exec_jp_C (a16 : Word) (s : State) : Result := .next (s.whenCond condC 3 (s.jumpTo a16))

/-- CALL C, a16: R162. -/
def exec_call_C (a16 : Word) (s : State) : Result := .next (s.whenCond condC 3 (s.callTo 3 a16))

/-- RST 18H: R166. -/
def exec_rst_18 (s : State) : Result := .next (s.callTo 1 0x18)

/-- POP HL: R168. -/
def exec_pop_HL (s : State) : Result := .next (s.popPair 1 .HL)

/-- PUSH HL: R167. -/
def exec_push_HL (s : State) : Result := .next (s.pushPair 1 .HL)

/-- RST 20H: R166. -/
def exec_rst_20 (s : State) : Result := .next (s.callTo 1 0x20)

/-- JP HL: R160. -/
def exec_jp_HL (s : State) : Result := .next (s.jumpTo (s.get16 .HL))

/-- RST 28H: R166. -/
def exec_rst_28 (s : State) : Result := .next (s.callTo 1 0x28)

/-- POP AF: R169. -/
def exec_pop_AF (s : State) : Result := .next (s.popPair 1 .AF)

/-- PUSH AF: R167. -/
def exec_push_AF (s : State) : Result := .next (s.pushPair 1 .AF)

/-- RST 30H: R166. -/
def exec_rst_30 (s : State) : Result := .next (s.callTo 1 0x30)

/-- RST 38H: R166. -/
def exec_rst_38 (s : State) : Result := .next (s.callTo 1 0x38)

end Sys2Proof.Machine
end

