-- ==== Sys2Proof/Machine/IncDec.lean ====
section
/-! DEFINITION. Increment and decrement (41_incdec.md).
Each meaning is one line over a shared operation and cites the rule it follows. -/

namespace Sys2Proof.Machine

/-- INC BC: R119. -/
def exec_inc_BC (s : State) : Result := .next (s.load16 1 .BC (s.get16 .BC + 1))

/-- INC B: R115. -/
def exec_inc_B (s : State) : Result := .next (s.modify8 1 (.reg .B) incByte)

/-- DEC B: R117. -/
def exec_dec_B (s : State) : Result := .next (s.modify8 1 (.reg .B) decByte)

/-- DEC BC: R120. -/
def exec_dec_BC (s : State) : Result := .next (s.load16 1 .BC (s.get16 .BC - 1))

/-- INC C: R115. -/
def exec_inc_C (s : State) : Result := .next (s.modify8 1 (.reg .C) incByte)

/-- DEC C: R117. -/
def exec_dec_C (s : State) : Result := .next (s.modify8 1 (.reg .C) decByte)

/-- INC DE: R119. -/
def exec_inc_DE (s : State) : Result := .next (s.load16 1 .DE (s.get16 .DE + 1))

/-- INC D: R115. -/
def exec_inc_D (s : State) : Result := .next (s.modify8 1 (.reg .D) incByte)

/-- DEC D: R117. -/
def exec_dec_D (s : State) : Result := .next (s.modify8 1 (.reg .D) decByte)

/-- DEC DE: R120. -/
def exec_dec_DE (s : State) : Result := .next (s.load16 1 .DE (s.get16 .DE - 1))

/-- INC E: R115. -/
def exec_inc_E (s : State) : Result := .next (s.modify8 1 (.reg .E) incByte)

/-- DEC E: R117. -/
def exec_dec_E (s : State) : Result := .next (s.modify8 1 (.reg .E) decByte)

/-- INC HL: R119. -/
def exec_inc_HL (s : State) : Result := .next (s.load16 1 .HL (s.get16 .HL + 1))

/-- INC H: R115. -/
def exec_inc_H (s : State) : Result := .next (s.modify8 1 (.reg .H) incByte)

/-- DEC H: R117. -/
def exec_dec_H (s : State) : Result := .next (s.modify8 1 (.reg .H) decByte)

/-- DEC HL: R120. -/
def exec_dec_HL (s : State) : Result := .next (s.load16 1 .HL (s.get16 .HL - 1))

/-- INC L: R115. -/
def exec_inc_L (s : State) : Result := .next (s.modify8 1 (.reg .L) incByte)

/-- DEC L: R117. -/
def exec_dec_L (s : State) : Result := .next (s.modify8 1 (.reg .L) decByte)

/-- INC SP: R119. -/
def exec_inc_SP (s : State) : Result := .next (s.load16 1 .SP (s.get16 .SP + 1))

/-- INC (HL): R116. -/
def exec_inc_mHL (s : State) : Result := .next (s.modify8 1 atHL incByte)

/-- DEC (HL): R118. -/
def exec_dec_mHL (s : State) : Result := .next (s.modify8 1 atHL decByte)

/-- DEC SP: R120. -/
def exec_dec_SP (s : State) : Result := .next (s.load16 1 .SP (s.get16 .SP - 1))

/-- INC A: R115. -/
def exec_inc_A (s : State) : Result := .next (s.modify8 1 (.reg .A) incByte)

/-- DEC A: R117. -/
def exec_dec_A (s : State) : Result := .next (s.modify8 1 (.reg .A) decByte)

end Sys2Proof.Machine
end

