-- ==== Sys2Proof/Machine/Loads.lean ====
section
/-! DEFINITION. The load instructions (40_loads.md): one meaning for each, over the operand model.
Each meaning is one line over a shared operation and cites the rule it follows. -/

namespace Sys2Proof.Machine

/-- LD BC, d16: R111. -/
def exec_ld_BC_d16 (d16 : Word) (s : State) : Result := .next (s.load16 3 .BC d16)

/-- LD (BC), A: R97. -/
def exec_ld_mBC_A (s : State) : Result := .next (s.load8 1 (.ind .BC .plain) (.loc (.reg .A)))

/-- LD B, d8: R95. -/
def exec_ld_B_d8 (d8 : Byte) (s : State) : Result := .next (s.load8 2 (.reg .B) (.imm d8))

/-- LD (a16), SP: R112. -/
def exec_ld_ma16_SP (a16 : Word) (s : State) : Result := .next ((s.write16 a16 s.sp).advance 3)

/-- LD A, (BC): R99. -/
def exec_ld_A_mBC (s : State) : Result := .next (s.load8 1 (.reg .A) (.loc (.ind .BC .plain)))

/-- LD C, d8: R95. -/
def exec_ld_C_d8 (d8 : Byte) (s : State) : Result := .next (s.load8 2 (.reg .C) (.imm d8))

/-- LD DE, d16: R111. -/
def exec_ld_DE_d16 (d16 : Word) (s : State) : Result := .next (s.load16 3 .DE d16)

/-- LD (DE), A: R98. -/
def exec_ld_mDE_A (s : State) : Result := .next (s.load8 1 (.ind .DE .plain) (.loc (.reg .A)))

/-- LD D, d8: R95. -/
def exec_ld_D_d8 (d8 : Byte) (s : State) : Result := .next (s.load8 2 (.reg .D) (.imm d8))

/-- LD A, (DE): R100. -/
def exec_ld_A_mDE (s : State) : Result := .next (s.load8 1 (.reg .A) (.loc (.ind .DE .plain)))

/-- LD E, d8: R95. -/
def exec_ld_E_d8 (d8 : Byte) (s : State) : Result := .next (s.load8 2 (.reg .E) (.imm d8))

/-- LD HL, d16: R111. -/
def exec_ld_HL_d16 (d16 : Word) (s : State) : Result := .next (s.load16 3 .HL d16)

/-- LD (HL+), A: R101. -/
def exec_ld_mHLi_A (s : State) : Result := .next (s.load8 1 (.ind .HL .postInc) (.loc (.reg .A)))

/-- LD H, d8: R95. -/
def exec_ld_H_d8 (d8 : Byte) (s : State) : Result := .next (s.load8 2 (.reg .H) (.imm d8))

/-- LD A, (HL+): R103. -/
def exec_ld_A_mHLi (s : State) : Result := .next (s.load8 1 (.reg .A) (.loc (.ind .HL .postInc)))

/-- LD L, d8: R95. -/
def exec_ld_L_d8 (d8 : Byte) (s : State) : Result := .next (s.load8 2 (.reg .L) (.imm d8))

/-- LD SP, d16: R111. -/
def exec_ld_SP_d16 (d16 : Word) (s : State) : Result := .next (s.load16 3 .SP d16)

/-- LD (HL-), A: R102. -/
def exec_ld_mHLd_A (s : State) : Result := .next (s.load8 1 (.ind .HL .postDec) (.loc (.reg .A)))

/-- LD (HL), d8: R96. -/
def exec_ld_mHL_d8 (d8 : Byte) (s : State) : Result := .next (s.load8 2 atHL (.imm d8))

/-- LD A, (HL-): R104. -/
def exec_ld_A_mHLd (s : State) : Result := .next (s.load8 1 (.reg .A) (.loc (.ind .HL .postDec)))

/-- LD A, d8: R95. -/
def exec_ld_A_d8 (d8 : Byte) (s : State) : Result := .next (s.load8 2 (.reg .A) (.imm d8))

/-- LD B, B: R92. -/
def exec_ld_B_B (s : State) : Result := .next (s.load8 1 (.reg .B) (.loc (.reg .B)))

/-- LD B, C: R92. -/
def exec_ld_B_C (s : State) : Result := .next (s.load8 1 (.reg .B) (.loc (.reg .C)))

/-- LD B, D: R92. -/
def exec_ld_B_D (s : State) : Result := .next (s.load8 1 (.reg .B) (.loc (.reg .D)))

/-- LD B, E: R92. -/
def exec_ld_B_E (s : State) : Result := .next (s.load8 1 (.reg .B) (.loc (.reg .E)))

/-- LD B, H: R92. -/
def exec_ld_B_H (s : State) : Result := .next (s.load8 1 (.reg .B) (.loc (.reg .H)))

/-- LD B, L: R92. -/
def exec_ld_B_L (s : State) : Result := .next (s.load8 1 (.reg .B) (.loc (.reg .L)))

/-- LD B, (HL): R93. -/
def exec_ld_B_mHL (s : State) : Result := .next (s.load8 1 (.reg .B) (.loc atHL))

/-- LD B, A: R92. -/
def exec_ld_B_A (s : State) : Result := .next (s.load8 1 (.reg .B) (.loc (.reg .A)))

/-- LD C, B: R92. -/
def exec_ld_C_B (s : State) : Result := .next (s.load8 1 (.reg .C) (.loc (.reg .B)))

/-- LD C, C: R92. -/
def exec_ld_C_C (s : State) : Result := .next (s.load8 1 (.reg .C) (.loc (.reg .C)))

/-- LD C, D: R92. -/
def exec_ld_C_D (s : State) : Result := .next (s.load8 1 (.reg .C) (.loc (.reg .D)))

/-- LD C, E: R92. -/
def exec_ld_C_E (s : State) : Result := .next (s.load8 1 (.reg .C) (.loc (.reg .E)))

/-- LD C, H: R92. -/
def exec_ld_C_H (s : State) : Result := .next (s.load8 1 (.reg .C) (.loc (.reg .H)))

/-- LD C, L: R92. -/
def exec_ld_C_L (s : State) : Result := .next (s.load8 1 (.reg .C) (.loc (.reg .L)))

/-- LD C, (HL): R93. -/
def exec_ld_C_mHL (s : State) : Result := .next (s.load8 1 (.reg .C) (.loc atHL))

/-- LD C, A: R92. -/
def exec_ld_C_A (s : State) : Result := .next (s.load8 1 (.reg .C) (.loc (.reg .A)))

/-- LD D, B: R92. -/
def exec_ld_D_B (s : State) : Result := .next (s.load8 1 (.reg .D) (.loc (.reg .B)))

/-- LD D, C: R92. -/
def exec_ld_D_C (s : State) : Result := .next (s.load8 1 (.reg .D) (.loc (.reg .C)))

/-- LD D, D: R92. -/
def exec_ld_D_D (s : State) : Result := .next (s.load8 1 (.reg .D) (.loc (.reg .D)))

/-- LD D, E: R92. -/
def exec_ld_D_E (s : State) : Result := .next (s.load8 1 (.reg .D) (.loc (.reg .E)))

/-- LD D, H: R92. -/
def exec_ld_D_H (s : State) : Result := .next (s.load8 1 (.reg .D) (.loc (.reg .H)))

/-- LD D, L: R92. -/
def exec_ld_D_L (s : State) : Result := .next (s.load8 1 (.reg .D) (.loc (.reg .L)))

/-- LD D, (HL): R93. -/
def exec_ld_D_mHL (s : State) : Result := .next (s.load8 1 (.reg .D) (.loc atHL))

/-- LD D, A: R92. -/
def exec_ld_D_A (s : State) : Result := .next (s.load8 1 (.reg .D) (.loc (.reg .A)))

/-- LD E, B: R92. -/
def exec_ld_E_B (s : State) : Result := .next (s.load8 1 (.reg .E) (.loc (.reg .B)))

/-- LD E, C: R92. -/
def exec_ld_E_C (s : State) : Result := .next (s.load8 1 (.reg .E) (.loc (.reg .C)))

/-- LD E, D: R92. -/
def exec_ld_E_D (s : State) : Result := .next (s.load8 1 (.reg .E) (.loc (.reg .D)))

/-- LD E, E: R92. -/
def exec_ld_E_E (s : State) : Result := .next (s.load8 1 (.reg .E) (.loc (.reg .E)))

/-- LD E, H: R92. -/
def exec_ld_E_H (s : State) : Result := .next (s.load8 1 (.reg .E) (.loc (.reg .H)))

/-- LD E, L: R92. -/
def exec_ld_E_L (s : State) : Result := .next (s.load8 1 (.reg .E) (.loc (.reg .L)))

/-- LD E, (HL): R93. -/
def exec_ld_E_mHL (s : State) : Result := .next (s.load8 1 (.reg .E) (.loc atHL))

/-- LD E, A: R92. -/
def exec_ld_E_A (s : State) : Result := .next (s.load8 1 (.reg .E) (.loc (.reg .A)))

/-- LD H, B: R92. -/
def exec_ld_H_B (s : State) : Result := .next (s.load8 1 (.reg .H) (.loc (.reg .B)))

/-- LD H, C: R92. -/
def exec_ld_H_C (s : State) : Result := .next (s.load8 1 (.reg .H) (.loc (.reg .C)))

/-- LD H, D: R92. -/
def exec_ld_H_D (s : State) : Result := .next (s.load8 1 (.reg .H) (.loc (.reg .D)))

/-- LD H, E: R92. -/
def exec_ld_H_E (s : State) : Result := .next (s.load8 1 (.reg .H) (.loc (.reg .E)))

/-- LD H, H: R92. -/
def exec_ld_H_H (s : State) : Result := .next (s.load8 1 (.reg .H) (.loc (.reg .H)))

/-- LD H, L: R92. -/
def exec_ld_H_L (s : State) : Result := .next (s.load8 1 (.reg .H) (.loc (.reg .L)))

/-- LD H, (HL): R93. -/
def exec_ld_H_mHL (s : State) : Result := .next (s.load8 1 (.reg .H) (.loc atHL))

/-- LD H, A: R92. -/
def exec_ld_H_A (s : State) : Result := .next (s.load8 1 (.reg .H) (.loc (.reg .A)))

/-- LD L, B: R92. -/
def exec_ld_L_B (s : State) : Result := .next (s.load8 1 (.reg .L) (.loc (.reg .B)))

/-- LD L, C: R92. -/
def exec_ld_L_C (s : State) : Result := .next (s.load8 1 (.reg .L) (.loc (.reg .C)))

/-- LD L, D: R92. -/
def exec_ld_L_D (s : State) : Result := .next (s.load8 1 (.reg .L) (.loc (.reg .D)))

/-- LD L, E: R92. -/
def exec_ld_L_E (s : State) : Result := .next (s.load8 1 (.reg .L) (.loc (.reg .E)))

/-- LD L, H: R92. -/
def exec_ld_L_H (s : State) : Result := .next (s.load8 1 (.reg .L) (.loc (.reg .H)))

/-- LD L, L: R92. -/
def exec_ld_L_L (s : State) : Result := .next (s.load8 1 (.reg .L) (.loc (.reg .L)))

/-- LD L, (HL): R93. -/
def exec_ld_L_mHL (s : State) : Result := .next (s.load8 1 (.reg .L) (.loc atHL))

/-- LD L, A: R92. -/
def exec_ld_L_A (s : State) : Result := .next (s.load8 1 (.reg .L) (.loc (.reg .A)))

/-- LD (HL), B: R94. -/
def exec_ld_mHL_B (s : State) : Result := .next (s.load8 1 atHL (.loc (.reg .B)))

/-- LD (HL), C: R94. -/
def exec_ld_mHL_C (s : State) : Result := .next (s.load8 1 atHL (.loc (.reg .C)))

/-- LD (HL), D: R94. -/
def exec_ld_mHL_D (s : State) : Result := .next (s.load8 1 atHL (.loc (.reg .D)))

/-- LD (HL), E: R94. -/
def exec_ld_mHL_E (s : State) : Result := .next (s.load8 1 atHL (.loc (.reg .E)))

/-- LD (HL), H: R94. -/
def exec_ld_mHL_H (s : State) : Result := .next (s.load8 1 atHL (.loc (.reg .H)))

/-- LD (HL), L: R94. -/
def exec_ld_mHL_L (s : State) : Result := .next (s.load8 1 atHL (.loc (.reg .L)))

/-- LD (HL), A: R94. -/
def exec_ld_mHL_A (s : State) : Result := .next (s.load8 1 atHL (.loc (.reg .A)))

/-- LD A, B: R92. -/
def exec_ld_A_B (s : State) : Result := .next (s.load8 1 (.reg .A) (.loc (.reg .B)))

/-- LD A, C: R92. -/
def exec_ld_A_C (s : State) : Result := .next (s.load8 1 (.reg .A) (.loc (.reg .C)))

/-- LD A, D: R92. -/
def exec_ld_A_D (s : State) : Result := .next (s.load8 1 (.reg .A) (.loc (.reg .D)))

/-- LD A, E: R92. -/
def exec_ld_A_E (s : State) : Result := .next (s.load8 1 (.reg .A) (.loc (.reg .E)))

/-- LD A, H: R92. -/
def exec_ld_A_H (s : State) : Result := .next (s.load8 1 (.reg .A) (.loc (.reg .H)))

/-- LD A, L: R92. -/
def exec_ld_A_L (s : State) : Result := .next (s.load8 1 (.reg .A) (.loc (.reg .L)))

/-- LD A, (HL): R93. -/
def exec_ld_A_mHL (s : State) : Result := .next (s.load8 1 (.reg .A) (.loc atHL))

/-- LD A, A: R92. -/
def exec_ld_A_A (s : State) : Result := .next (s.load8 1 (.reg .A) (.loc (.reg .A)))

/-- LDH (a8), A: R107. -/
def exec_ldh_ma8_A (a8 : Byte) (s : State) : Result := .next (s.load8 2 (.highImm a8) (.loc (.reg .A)))

/-- LD (C), A: R109. -/
def exec_ld_mC_A (s : State) : Result := .next (s.load8 1 .highC (.loc (.reg .A)))

/-- LD (a16), A: R105. -/
def exec_ld_ma16_A (a16 : Word) (s : State) : Result := .next (s.load8 3 (.abs a16) (.loc (.reg .A)))

/-- LDH A, (a8): R108. -/
def exec_ldh_A_ma8 (a8 : Byte) (s : State) : Result := .next (s.load8 2 (.reg .A) (.loc (.highImm a8)))

/-- LD A, (C): R110. -/
def exec_ld_A_mC (s : State) : Result := .next (s.load8 1 (.reg .A) (.loc .highC))

/-- LD SP, HL: R113. -/
def exec_ld_SP_HL (s : State) : Result := .next (s.load16 1 .SP (s.get16 .HL))

/-- LD A, (a16): R106. -/
def exec_ld_A_ma16 (a16 : Word) (s : State) : Result := .next (s.load8 3 (.reg .A) (.loc (.abs a16)))

end Sys2Proof.Machine
end

