-- ==== Sys2Proof/Machine/Misc.lean ====
section
/-! DEFINITION. Miscellaneous, system and flag-control instructions and the unused opcode bytes (47_misc.md).
Each meaning is one line over a shared operation and cites the rule it follows. -/

namespace Sys2Proof.Machine

/-- DAA (47_misc.md R175): A and the flags from the adjustment of A by F.N, F.H and F.C; N is unchanged. -/
def State.adjustA (s : State) (n : Word) : State :=
  let r := daaByte s.a s.flagN s.flagH s.flagC
  ((s.set8 .A r.res).setFlags r.z s.flagN r.h r.c).advance n

/-- NOP: R170. -/
def exec_nop (s : State) : Result := .next (s.advance 1)

/-- STOP: R172. -/
def exec_stop (_x : Byte) (s : State) : Result := .next ({ s with mode := .stopped }.advance 2)

/-- DAA: R175. -/
def exec_daa (s : State) : Result := .next (s.adjustA 1)

/-- CPL: R176. -/
def exec_cpl (s : State) : Result :=
  .next (((s.set8 .A (s.a ^^^ 0xFF)).setFlags s.flagZ true true s.flagC).advance 1)

/-- SCF: R177. -/
def exec_scf (s : State) : Result := .next ((s.setFlags s.flagZ false false true).advance 1)

/-- CCF: R178. -/
def exec_ccf (s : State) : Result := .next ((s.setFlags s.flagZ false false (!s.flagC)).advance 1)

/-- HALT: R171. -/
def exec_halt (s : State) : Result :=
  .next (if !s.ime && s.irqPending.isSome then s.recordFault .haltBug 0x76 else { s with mode := .halted }.advance 1)

/-- (unused D3): R180. -/
def exec_unused_D3 (s : State) : Result := .next (s.recordFault .illegalOpcode 0xD3)

/-- (unused DB): R180. -/
def exec_unused_DB (s : State) : Result := .next (s.recordFault .illegalOpcode 0xDB)

/-- (unused DD): R180. -/
def exec_unused_DD (s : State) : Result := .next (s.recordFault .illegalOpcode 0xDD)

/-- (unused E3): R180. -/
def exec_unused_E3 (s : State) : Result := .next (s.recordFault .illegalOpcode 0xE3)

/-- (unused E4): R180. -/
def exec_unused_E4 (s : State) : Result := .next (s.recordFault .illegalOpcode 0xE4)

/-- (unused EB): R180. -/
def exec_unused_EB (s : State) : Result := .next (s.recordFault .illegalOpcode 0xEB)

/-- (unused EC): R180. -/
def exec_unused_EC (s : State) : Result := .next (s.recordFault .illegalOpcode 0xEC)

/-- (unused ED): R180. -/
def exec_unused_ED (s : State) : Result := .next (s.recordFault .illegalOpcode 0xED)

/-- DI: R173. -/
def exec_di (s : State) : Result := .next ({ s with ime := false, eiPending := false }.advance 1)

/-- (unused F4): R180. -/
def exec_unused_F4 (s : State) : Result := .next (s.recordFault .illegalOpcode 0xF4)

/-- EI: R174. -/
def exec_ei (s : State) : Result := .next ({ s with eiPending := true }.advance 1)

/-- (unused FC): R180. -/
def exec_unused_FC (s : State) : Result := .next (s.recordFault .illegalOpcode 0xFC)

/-- (unused FD): R180. -/
def exec_unused_FD (s : State) : Result := .next (s.recordFault .illegalOpcode 0xFD)

end Sys2Proof.Machine
end

