-- ==== Sys2Proof/Machine/Prefix.lean ====
section
/-! DEFINITION. The 0xCB prefix as a row of its own (47_misc.md R179; log 12).
Each meaning is one line over a shared operation and cites the rule it follows. -/

namespace Sys2Proof.Machine

/-- What the 0xCB-prefixed instruction of CB opcode `b` does (47_misc.md R179, 30_encoding.md R81): the operation of fields x and y
on the operand of field z; the prefix has no effect of its own. -/
def State.prefixed (s : State) (b : Byte) : State :=
  let d := operandOf (fieldZ b)
  match fieldX b, fieldY b with
  | .q0, .o0 => s.modify8 2 d (rotByte .RLC)
  | .q0, .o1 => s.modify8 2 d (rotByte .RRC)
  | .q0, .o2 => s.modify8 2 d (rotByte .RL)
  | .q0, .o3 => s.modify8 2 d (rotByte .RR)
  | .q0, .o4 => s.modify8 2 d (rotByte .SLA)
  | .q0, .o5 => s.modify8 2 d (rotByte .SRA)
  | .q0, .o6 => s.modify8 2 d (rotByte .SWAP)
  | .q0, .o7 => s.modify8 2 d (rotByte .SRL)
  | .q1, n => s.testBit 2 n d
  | .q2, n => s.rewrite8 2 d (resetBit n)
  | .q3, n => s.rewrite8 2 d (setBit n)

/-- PREFIX CB: R179. -/
def exec_prefix_CB (b : Byte) (s : State) : Result := .next (s.prefixed b)

end Sys2Proof.Machine
end

