-- ==== Sys2Proof/Machine/Rotate.lean ====
section
/-! DEFINITION. Rotates, shifts and swap (44_rotate_shift.md).
Each meaning is one line over a shared operation and cites the rule it follows. -/

namespace Sys2Proof.Machine

/-- RLCA: R137. -/
def exec_rlca (s : State) : Result := .next (s.rotA 1 .RLC)

/-- RRCA: R138. -/
def exec_rrca (s : State) : Result := .next (s.rotA 1 .RRC)

/-- RLA: R139. -/
def exec_rla (s : State) : Result := .next (s.rotA 1 .RL)

/-- RRA: R140. -/
def exec_rra (s : State) : Result := .next (s.rotA 1 .RR)

/-- RLC B: R141. -/
def exec_rlc_B (s : State) : Result := .next (s.modify8 2 (.reg .B) (rotByte .RLC))

/-- RLC C: R141. -/
def exec_rlc_C (s : State) : Result := .next (s.modify8 2 (.reg .C) (rotByte .RLC))

/-- RLC D: R141. -/
def exec_rlc_D (s : State) : Result := .next (s.modify8 2 (.reg .D) (rotByte .RLC))

/-- RLC E: R141. -/
def exec_rlc_E (s : State) : Result := .next (s.modify8 2 (.reg .E) (rotByte .RLC))

/-- RLC H: R141. -/
def exec_rlc_H (s : State) : Result := .next (s.modify8 2 (.reg .H) (rotByte .RLC))

/-- RLC L: R141. -/
def exec_rlc_L (s : State) : Result := .next (s.modify8 2 (.reg .L) (rotByte .RLC))

/-- RLC (HL): R141. -/
def exec_rlc_mHL (s : State) : Result := .next (s.modify8 2 atHL (rotByte .RLC))

/-- RLC A: R141. -/
def exec_rlc_A (s : State) : Result := .next (s.modify8 2 (.reg .A) (rotByte .RLC))

/-- RRC B: R142. -/
def exec_rrc_B (s : State) : Result := .next (s.modify8 2 (.reg .B) (rotByte .RRC))

/-- RRC C: R142. -/
def exec_rrc_C (s : State) : Result := .next (s.modify8 2 (.reg .C) (rotByte .RRC))

/-- RRC D: R142. -/
def exec_rrc_D (s : State) : Result := .next (s.modify8 2 (.reg .D) (rotByte .RRC))

/-- RRC E: R142. -/
def exec_rrc_E (s : State) : Result := .next (s.modify8 2 (.reg .E) (rotByte .RRC))

/-- RRC H: R142. -/
def exec_rrc_H (s : State) : Result := .next (s.modify8 2 (.reg .H) (rotByte .RRC))

/-- RRC L: R142. -/
def exec_rrc_L (s : State) : Result := .next (s.modify8 2 (.reg .L) (rotByte .RRC))

/-- RRC (HL): R142. -/
def exec_rrc_mHL (s : State) : Result := .next (s.modify8 2 atHL (rotByte .RRC))

/-- RRC A: R142. -/
def exec_rrc_A (s : State) : Result := .next (s.modify8 2 (.reg .A) (rotByte .RRC))

/-- RL B: R143. -/
def exec_rl_B (s : State) : Result := .next (s.modify8 2 (.reg .B) (rotByte .RL))

/-- RL C: R143. -/
def exec_rl_C (s : State) : Result := .next (s.modify8 2 (.reg .C) (rotByte .RL))

/-- RL D: R143. -/
def exec_rl_D (s : State) : Result := .next (s.modify8 2 (.reg .D) (rotByte .RL))

/-- RL E: R143. -/
def exec_rl_E (s : State) : Result := .next (s.modify8 2 (.reg .E) (rotByte .RL))

/-- RL H: R143. -/
def exec_rl_H (s : State) : Result := .next (s.modify8 2 (.reg .H) (rotByte .RL))

/-- RL L: R143. -/
def exec_rl_L (s : State) : Result := .next (s.modify8 2 (.reg .L) (rotByte .RL))

/-- RL (HL): R143. -/
def exec_rl_mHL (s : State) : Result := .next (s.modify8 2 atHL (rotByte .RL))

/-- RL A: R143. -/
def exec_rl_A (s : State) : Result := .next (s.modify8 2 (.reg .A) (rotByte .RL))

/-- RR B: R144. -/
def exec_rr_B (s : State) : Result := .next (s.modify8 2 (.reg .B) (rotByte .RR))

/-- RR C: R144. -/
def exec_rr_C (s : State) : Result := .next (s.modify8 2 (.reg .C) (rotByte .RR))

/-- RR D: R144. -/
def exec_rr_D (s : State) : Result := .next (s.modify8 2 (.reg .D) (rotByte .RR))

/-- RR E: R144. -/
def exec_rr_E (s : State) : Result := .next (s.modify8 2 (.reg .E) (rotByte .RR))

/-- RR H: R144. -/
def exec_rr_H (s : State) : Result := .next (s.modify8 2 (.reg .H) (rotByte .RR))

/-- RR L: R144. -/
def exec_rr_L (s : State) : Result := .next (s.modify8 2 (.reg .L) (rotByte .RR))

/-- RR (HL): R144. -/
def exec_rr_mHL (s : State) : Result := .next (s.modify8 2 atHL (rotByte .RR))

/-- RR A: R144. -/
def exec_rr_A (s : State) : Result := .next (s.modify8 2 (.reg .A) (rotByte .RR))

/-- SLA B: R145. -/
def exec_sla_B (s : State) : Result := .next (s.modify8 2 (.reg .B) (rotByte .SLA))

/-- SLA C: R145. -/
def exec_sla_C (s : State) : Result := .next (s.modify8 2 (.reg .C) (rotByte .SLA))

/-- SLA D: R145. -/
def exec_sla_D (s : State) : Result := .next (s.modify8 2 (.reg .D) (rotByte .SLA))

/-- SLA E: R145. -/
def exec_sla_E (s : State) : Result := .next (s.modify8 2 (.reg .E) (rotByte .SLA))

/-- SLA H: R145. -/
def exec_sla_H (s : State) : Result := .next (s.modify8 2 (.reg .H) (rotByte .SLA))

/-- SLA L: R145. -/
def exec_sla_L (s : State) : Result := .next (s.modify8 2 (.reg .L) (rotByte .SLA))

/-- SLA (HL): R145. -/
def exec_sla_mHL (s : State) : Result := .next (s.modify8 2 atHL (rotByte .SLA))

/-- SLA A: R145. -/
def exec_sla_A (s : State) : Result := .next (s.modify8 2 (.reg .A) (rotByte .SLA))

/-- SRA B: R146. -/
def exec_sra_B (s : State) : Result := .next (s.modify8 2 (.reg .B) (rotByte .SRA))

/-- SRA C: R146. -/
def exec_sra_C (s : State) : Result := .next (s.modify8 2 (.reg .C) (rotByte .SRA))

/-- SRA D: R146. -/
def exec_sra_D (s : State) : Result := .next (s.modify8 2 (.reg .D) (rotByte .SRA))

/-- SRA E: R146. -/
def exec_sra_E (s : State) : Result := .next (s.modify8 2 (.reg .E) (rotByte .SRA))

/-- SRA H: R146. -/
def exec_sra_H (s : State) : Result := .next (s.modify8 2 (.reg .H) (rotByte .SRA))

/-- SRA L: R146. -/
def exec_sra_L (s : State) : Result := .next (s.modify8 2 (.reg .L) (rotByte .SRA))

/-- SRA (HL): R146. -/
def exec_sra_mHL (s : State) : Result := .next (s.modify8 2 atHL (rotByte .SRA))

/-- SRA A: R146. -/
def exec_sra_A (s : State) : Result := .next (s.modify8 2 (.reg .A) (rotByte .SRA))

/-- SWAP B: R147. -/
def exec_swap_B (s : State) : Result := .next (s.modify8 2 (.reg .B) (rotByte .SWAP))

/-- SWAP C: R147. -/
def exec_swap_C (s : State) : Result := .next (s.modify8 2 (.reg .C) (rotByte .SWAP))

/-- SWAP D: R147. -/
def exec_swap_D (s : State) : Result := .next (s.modify8 2 (.reg .D) (rotByte .SWAP))

/-- SWAP E: R147. -/
def exec_swap_E (s : State) : Result := .next (s.modify8 2 (.reg .E) (rotByte .SWAP))

/-- SWAP H: R147. -/
def exec_swap_H (s : State) : Result := .next (s.modify8 2 (.reg .H) (rotByte .SWAP))

/-- SWAP L: R147. -/
def exec_swap_L (s : State) : Result := .next (s.modify8 2 (.reg .L) (rotByte .SWAP))

/-- SWAP (HL): R147. -/
def exec_swap_mHL (s : State) : Result := .next (s.modify8 2 atHL (rotByte .SWAP))

/-- SWAP A: R147. -/
def exec_swap_A (s : State) : Result := .next (s.modify8 2 (.reg .A) (rotByte .SWAP))

/-- SRL B: R148. -/
def exec_srl_B (s : State) : Result := .next (s.modify8 2 (.reg .B) (rotByte .SRL))

/-- SRL C: R148. -/
def exec_srl_C (s : State) : Result := .next (s.modify8 2 (.reg .C) (rotByte .SRL))

/-- SRL D: R148. -/
def exec_srl_D (s : State) : Result := .next (s.modify8 2 (.reg .D) (rotByte .SRL))

/-- SRL E: R148. -/
def exec_srl_E (s : State) : Result := .next (s.modify8 2 (.reg .E) (rotByte .SRL))

/-- SRL H: R148. -/
def exec_srl_H (s : State) : Result := .next (s.modify8 2 (.reg .H) (rotByte .SRL))

/-- SRL L: R148. -/
def exec_srl_L (s : State) : Result := .next (s.modify8 2 (.reg .L) (rotByte .SRL))

/-- SRL (HL): R148. -/
def exec_srl_mHL (s : State) : Result := .next (s.modify8 2 atHL (rotByte .SRL))

/-- SRL A: R148. -/
def exec_srl_A (s : State) : Result := .next (s.modify8 2 (.reg .A) (rotByte .SRL))

end Sys2Proof.Machine
end

