-- ==== Sys2Proof/Machine/Step.lean ====
section
/-! DEFINITION. One step of CORE (60_exceptions.md R194): what has no step, wake-up, acceptance of an interrupt, EI's promotion,
fetch, execution. The parts are operations of Machine/Ops.lean. -/

namespace Sys2Proof.Machine

/-- The instruction part of a step that began in `s` and reached the fetch in `t` (60_exceptions.md R194). -/
def runInstr (s t : State) : Result := settle s (exec t.promoteEi.fetch.1 t.promoteEi.fetch.2)

/-- One step, its `IrqPending` being the head of `irqInputs` (60_exceptions.md R194). -/
def step (s : State) : Host.Outcome State Fault Refusal :=
  match s.noStep with
  | some r => r
  | none =>
    match s.wake.accepts with
    | some n => .next (s.wake.dispatchIrq n).nextInput
    | none => runInstr s s.wake

/-- `s` with a row's bits, numbered as spec/opcode_table.json numbers them, loaded into the store at PC, PC+1 and PC+2
from outside the machine, past the `Bus` (log 19). -/
def State.withFetchWord (s : State) (nbits w : Nat) : State :=
  match tableBytes nbits w with
  | (w0, w1, w2) => ((s.poke s.pc w0).poke (s.pc + 1) w1).poke (s.pc + 2) w2

end Sys2Proof.Machine
end

