-- ==== Sys2Proof/Machine/Timing.lean ====
section
/-! DEFINITION. The informative timing table (70_reset_and_hazards.md R215) as data: the cost of an instruction in machine cycles.
No rule of the spec reads it (R8, R214) and `step` does not (log 17). -/

namespace Sys2Proof.Machine

/-- Row 0x of R215: (taken, not taken). -/
def cycles0x : List (Nat × Nat) :=
  [(1, 1), (3, 3), (2, 2), (2, 2), (1, 1), (1, 1), (2, 2), (1, 1),
   (5, 5), (2, 2), (2, 2), (2, 2), (1, 1), (1, 1), (2, 2), (1, 1)]

/-- Row 1x of R215: (taken, not taken). -/
def cycles1x : List (Nat × Nat) :=
  [(1, 1), (3, 3), (2, 2), (2, 2), (1, 1), (1, 1), (2, 2), (1, 1),
   (3, 3), (2, 2), (2, 2), (2, 2), (1, 1), (1, 1), (2, 2), (1, 1)]

/-- Row 2x of R215: (taken, not taken). -/
def cycles2x : List (Nat × Nat) :=
  [(3, 2), (3, 3), (2, 2), (2, 2), (1, 1), (1, 1), (2, 2), (1, 1),
   (3, 2), (2, 2), (2, 2), (2, 2), (1, 1), (1, 1), (2, 2), (1, 1)]

/-- Row 3x of R215: (taken, not taken). -/
def cycles3x : List (Nat × Nat) :=
  [(3, 2), (3, 3), (2, 2), (2, 2), (3, 3), (3, 3), (3, 3), (1, 1),
   (3, 2), (2, 2), (2, 2), (2, 2), (1, 1), (1, 1), (2, 2), (1, 1)]

/-- Row 4x of R215: (taken, not taken). -/
def cycles4x : List (Nat × Nat) :=
  [(1, 1), (1, 1), (1, 1), (1, 1), (1, 1), (1, 1), (2, 2), (1, 1),
   (1, 1), (1, 1), (1, 1), (1, 1), (1, 1), (1, 1), (2, 2), (1, 1)]

/-- Row 5x of R215: (taken, not taken). -/
def cycles5x : List (Nat × Nat) :=
  [(1, 1), (1, 1), (1, 1), (1, 1), (1, 1), (1, 1), (2, 2), (1, 1),
   (1, 1), (1, 1), (1, 1), (1, 1), (1, 1), (1, 1), (2, 2), (1, 1)]

/-- Row 6x of R215: (taken, not taken). -/
def cycles6x : List (Nat × Nat) :=
  [(1, 1), (1, 1), (1, 1), (1, 1), (1, 1), (1, 1), (2, 2), (1, 1),
   (1, 1), (1, 1), (1, 1), (1, 1), (1, 1), (1, 1), (2, 2), (1, 1)]

/-- Row 7x of R215: (taken, not taken). -/
def cycles7x : List (Nat × Nat) :=
  [(2, 2), (2, 2), (2, 2), (2, 2), (2, 2), (2, 2), (1, 1), (2, 2),
   (1, 1), (1, 1), (1, 1), (1, 1), (1, 1), (1, 1), (2, 2), (1, 1)]

/-- Row 8x of R215: (taken, not taken). -/
def cycles8x : List (Nat × Nat) :=
  [(1, 1), (1, 1), (1, 1), (1, 1), (1, 1), (1, 1), (2, 2), (1, 1),
   (1, 1), (1, 1), (1, 1), (1, 1), (1, 1), (1, 1), (2, 2), (1, 1)]

/-- Row 9x of R215: (taken, not taken). -/
def cycles9x : List (Nat × Nat) :=
  [(1, 1), (1, 1), (1, 1), (1, 1), (1, 1), (1, 1), (2, 2), (1, 1),
   (1, 1), (1, 1), (1, 1), (1, 1), (1, 1), (1, 1), (2, 2), (1, 1)]

/-- Row Ax of R215: (taken, not taken). -/
def cyclesAx : List (Nat × Nat) :=
  [(1, 1), (1, 1), (1, 1), (1, 1), (1, 1), (1, 1), (2, 2), (1, 1),
   (1, 1), (1, 1), (1, 1), (1, 1), (1, 1), (1, 1), (2, 2), (1, 1)]

/-- Row Bx of R215: (taken, not taken). -/
def cyclesBx : List (Nat × Nat) :=
  [(1, 1), (1, 1), (1, 1), (1, 1), (1, 1), (1, 1), (2, 2), (1, 1),
   (1, 1), (1, 1), (1, 1), (1, 1), (1, 1), (1, 1), (2, 2), (1, 1)]

/-- Row Cx of R215: (taken, not taken). -/
def cyclesCx : List (Nat × Nat) :=
  [(5, 2), (3, 3), (4, 3), (4, 4), (6, 3), (4, 4), (2, 2), (4, 4),
   (5, 2), (4, 4), (4, 3), (0, 0), (6, 3), (6, 6), (2, 2), (4, 4)]

/-- Row Dx of R215: (taken, not taken). -/
def cyclesDx : List (Nat × Nat) :=
  [(5, 2), (3, 3), (4, 3), (0, 0), (6, 3), (4, 4), (2, 2), (4, 4),
   (5, 2), (4, 4), (4, 3), (0, 0), (6, 3), (0, 0), (2, 2), (4, 4)]

/-- Row Ex of R215: (taken, not taken). -/
def cyclesEx : List (Nat × Nat) :=
  [(3, 3), (3, 3), (2, 2), (0, 0), (0, 0), (4, 4), (2, 2), (4, 4),
   (4, 4), (1, 1), (4, 4), (0, 0), (0, 0), (0, 0), (2, 2), (4, 4)]

/-- Row Fx of R215: (taken, not taken). -/
def cyclesFx : List (Nat × Nat) :=
  [(3, 3), (3, 3), (2, 2), (1, 1), (0, 0), (4, 4), (2, 2), (4, 4),
   (3, 3), (2, 2), (4, 4), (1, 1), (0, 0), (0, 0), (2, 2), (4, 4)]

/-- The main table of R215; an unused byte and the bare prefix cost 0. -/
def mainCycles : List (List (Nat × Nat)) :=
  [cycles0x, cycles1x, cycles2x, cycles3x, cycles4x, cycles5x, cycles6x, cycles7x,
   cycles8x, cycles9x, cyclesAx, cyclesBx, cyclesCx, cyclesDx, cyclesEx, cyclesFx]

/-- The cost of a 0xCB-prefixed instruction, prefix included (R215): 2 for a register, 3 for BIT n,(HL), 4 for the other (HL) forms. -/
def cbCycles (b : Byte) : Nat :=
  match fieldX b, fieldZ b with
  | .q1, .o6 => 3
  | _, .o6 => 4
  | _, _ => 2

/-- The `cycles` of a decoded instruction (30_encoding.md R67), for its first two bytes and whether a conditional form is taken. -/
def cycles (w0 w1 : Byte) (taken : Bool) : Nat :=
  if w0 = 0xCB then cbCycles w1
  else
    let r := (mainCycles.getD (w0.toNat / 16) []).getD (w0.toNat % 16) (0, 0)
    if taken then r.1 else r.2

/-- The cost of accepting an interrupt (R192, R215). -/
def dispatchCycles : Nat := 5

end Sys2Proof.Machine
end

