-- ==== Sys2Proof/Safety.lean ====
section
/-! DEFINITION. The terms in which claims are made: the canonical form of memory, the invariants of the state, and, for each
opcode, what its instruction may change: the flags (47_misc.md R181), the registers (10_state.md R28) and the bytes of memory. The
tables are by the bytes of the instruction, `w0` the opcode, `w1` and `w2` the bytes after it, and are written from the rules, not
from the meanings. -/

namespace Sys2Proof.Machine

/-- The canonical form of memory: addresses of the 16-bit space, strictly rising, no byte that reads as an unlisted one. -/
abbrev Memory.wf (m : List Host.Cell) : Prop :=
  m.Pairwise (fun x y => x.1 < y.1) ∧ ∀ x ∈ m, x.1 < 65536 ∧ x.2 ≠ Config.unlistedByte

/-- What a run from reset keeps: memory in canonical form, and F's low nibble zero (10_state.md R21). -/
abbrev State.Inv (s : State) : Prop := Memory.wf s.mem ∧ s.f &&& 0x0F#8 = 0#8

/-- What the fault cell says of the state that holds it (60_exceptions.md R183): the address is PC, the byte is the opcode there,
an unused one for `illegalOpcode` and HALT's for `haltBug`. -/
abbrev State.FaultInv (s : State) : Prop :=
  match s.fault with
  | none => True
  | some r =>
    r.address = s.pc ∧ r.byte = s.read s.pc ∧
    match r.kind with
    | .illegalOpcode => (decodeWindow r.byte 0 0).unimplemented = true
    | .haltBug => r.byte = 0x76#8

/-- The core can take a step that does something: no fault, not stopped, and not halted with nothing pending (60_exceptions.md
R194). -/
abbrev State.canStep (s : State) : Prop :=
  s.fault = none ∧ (s.mode = .running ∨ (s.mode = .halted ∧ s.irqPending ≠ none))

/-- The reads of `n` bytes at `a`, `wrap16(a+1)`, …, in order: the bytes, and the state after them (20_memory.md R62). -/
def State.readBytes (s : State) (a : Word) (n : Nat) : List Byte × State :=
  match n with
  | 0 => ([], s)
  | n + 1 => (s.read a :: ((s.afterRead a).readBytes (a + 1) n).1, ((s.afterRead a).readBytes (a + 1) n).2)

/-- An answer that a device of the `Bus` has yet to give changes the byte of the store at `a` (20_memory.md R44). -/
def State.busStores (s : State) (a : Word) : Prop := ∃ r ∈ s.bus.answers, ∃ x ∈ r.stores, x.1 = a

/-! ### Flags (47_misc.md R181) -/

/-- A cell of R181's table: `*`, `0` or `1`, `-`. -/
inductive FlagEffect where
  | computed
  | forced (v : Bool)
  | kept
deriving DecidableEq, Repr

/-- A row of R181's table. -/
structure FlagRow where
  z : FlagEffect
  n : FlagEffect
  h : FlagEffect
  c : FlagEffect
deriving DecidableEq, Repr

/-- The rows of the eight ALU operations by field y. -/
def aluFlagRow (y : Oct) : FlagRow :=
  match y with
  | .o0 | .o1 => ⟨.computed, .forced false, .computed, .computed⟩               -- ADD, ADC
  | .o2 | .o3 | .o7 => ⟨.computed, .forced true, .computed, .computed⟩          -- SUB, SBC, CP
  | .o4 => ⟨.computed, .forced false, .forced true, .forced false⟩              -- AND
  | .o5 | .o6 => ⟨.computed, .forced false, .forced false, .forced false⟩       -- XOR, OR

/-- The rows of the 0xCB space by fields x and y of the CB opcode. -/
def cbFlagRow (x : Quad) (y : Oct) : FlagRow :=
  match x, y with
  | .q0, .o6 => ⟨.computed, .forced false, .forced false, .forced false⟩        -- SWAP
  | .q0, _ => ⟨.computed, .forced false, .forced false, .computed⟩              -- RLC RRC RL RR SLA SRA SRL
  | .q1, _ => ⟨.computed, .forced false, .forced true, .kept⟩                   -- BIT
  | _, _ => ⟨.kept, .kept, .kept, .kept⟩                                        -- RES, SET

/-- R181's table by the bytes of the instruction. -/
def flagRow (w0 w1 : Byte) : FlagRow :=
  match fieldX w0, fieldY w0, fieldZ w0 with
  | .q0, _, .o4 => ⟨.computed, .forced false, .computed, .kept⟩                 -- INC
  | .q0, _, .o5 => ⟨.computed, .forced true, .computed, .kept⟩                  -- DEC
  | .q0, .o1, .o1 => ⟨.kept, .forced false, .computed, .computed⟩               -- ADD HL,BC
  | .q0, .o3, .o1 => ⟨.kept, .forced false, .computed, .computed⟩               -- ADD HL,DE
  | .q0, .o5, .o1 => ⟨.kept, .forced false, .computed, .computed⟩               -- ADD HL,HL
  | .q0, .o7, .o1 => ⟨.kept, .forced false, .computed, .computed⟩               -- ADD HL,SP
  | .q0, .o4, .o7 => ⟨.computed, .kept, .forced false, .computed⟩               -- DAA
  | .q0, .o5, .o7 => ⟨.kept, .forced true, .forced true, .kept⟩                 -- CPL
  | .q0, .o6, .o7 => ⟨.kept, .forced false, .forced false, .forced true⟩        -- SCF
  | .q0, .o7, .o7 => ⟨.kept, .forced false, .forced false, .computed⟩           -- CCF
  | .q0, _, .o7 => ⟨.forced false, .forced false, .forced false, .computed⟩     -- RLCA RRCA RLA RRA
  | .q2, y, _ => aluFlagRow y
  | .q3, y, .o6 => aluFlagRow y
  | .q3, .o5, .o0 => ⟨.forced false, .forced false, .computed, .computed⟩       -- ADD SP,e8
  | .q3, .o7, .o0 => ⟨.forced false, .forced false, .computed, .computed⟩       -- LD HL,SP+e8
  | .q3, .o6, .o1 => ⟨.computed, .computed, .computed, .computed⟩               -- POP AF
  | .q3, .o1, .o3 => cbFlagRow (fieldX w1) (fieldY w1)                          -- 0xCB prefix
  | _, _, _ => ⟨.kept, .kept, .kept, .kept⟩

/-- A flag that was `old` and is `new` is as the cell says. -/
def FlagEffect.allows (e : FlagEffect) (old new : Bool) : Prop :=
  match e with
  | .computed => True
  | .forced v => new = v
  | .kept => new = old

/-- The flags of `t` are as the row says, beginning from those of `s`. -/
def FlagRow.allows (r : FlagRow) (s t : State) : Prop :=
  r.z.allows s.flagZ t.flagZ ∧ r.n.allows s.flagN t.flagN ∧ r.h.allows s.flagH t.flagH ∧ r.c.allows s.flagC t.flagC

/-! ### Registers (10_state.md R28) -/

/-- The register that an operand index names; index 6 is memory (30_encoding.md R70). -/
def indexReg (i : Oct) : List Reg8 :=
  match i with
  | .o0 => [.B]
  | .o1 => [.C]
  | .o2 => [.D]
  | .o3 => [.E]
  | .o4 => [.H]
  | .o5 => [.L]
  | .o6 => []
  | .o7 => [.A]

/-- The 8-bit registers of pair index p = y/2 (30_encoding.md R71); SP has none. -/
def pairRegs (y : Oct) : List Reg8 :=
  match y with
  | .o0 | .o1 => [.B, .C]
  | .o2 | .o3 => [.D, .E]
  | .o4 | .o5 => [.H, .L]
  | .o6 | .o7 => []

/-- The 8-bit registers an instruction may write (10_state.md R28), F apart. -/
def regsWritten (w0 w1 : Byte) : List Reg8 :=
  match fieldX w0, fieldY w0, fieldZ w0 with
  | .q0, .o1, .o1 => [.H, .L]                    -- ADD HL,BC
  | .q0, .o3, .o1 => [.H, .L]                    -- ADD HL,DE
  | .q0, .o5, .o1 => [.H, .L]                    -- ADD HL,HL
  | .q0, .o7, .o1 => [.H, .L]                    -- ADD HL,SP
  | .q0, y, .o1 => pairRegs y                    -- LD rr,d16
  | .q0, .o1, .o2 => [.A]                        -- LD A,(BC)
  | .q0, .o3, .o2 => [.A]                        -- LD A,(DE)
  | .q0, .o4, .o2 => [.H, .L]                    -- LD (HL+),A
  | .q0, .o5, .o2 => [.A, .H, .L]                -- LD A,(HL+)
  | .q0, .o6, .o2 => [.H, .L]                    -- LD (HL-),A
  | .q0, .o7, .o2 => [.A, .H, .L]                -- LD A,(HL-)
  | .q0, y, .o3 => pairRegs y                    -- INC rr, DEC rr
  | .q0, y, .o4 => indexReg y                    -- INC r
  | .q0, y, .o5 => indexReg y                    -- DEC r
  | .q0, y, .o6 => indexReg y                    -- LD r,d8
  | .q0, .o6, .o7 => []                          -- SCF
  | .q0, .o7, .o7 => []                          -- CCF
  | .q0, _, .o7 => [.A]                          -- RLCA RRCA RLA RRA DAA CPL
  | .q1, y, _ => indexReg y                      -- LD r,r'; HALT writes none
  | .q2, .o7, _ => []                            -- CP
  | .q2, _, _ => [.A]
  | .q3, .o7, .o6 => []                          -- CP d8
  | .q3, _, .o6 => [.A]
  | .q3, .o6, .o0 => [.A]                        -- LDH A,(a8)
  | .q3, .o7, .o0 => [.H, .L]                    -- LD HL,SP+e8
  | .q3, .o0, .o1 => [.B, .C]                    -- POP BC
  | .q3, .o2, .o1 => [.D, .E]                    -- POP DE
  | .q3, .o4, .o1 => [.H, .L]                    -- POP HL
  | .q3, .o6, .o1 => [.A]                        -- POP AF
  | .q3, .o6, .o2 => [.A]                        -- LD A,(C)
  | .q3, .o7, .o2 => [.A]                        -- LD A,(a16)
  | .q3, .o1, .o3 =>
    match fieldX w1 with
    | .q1 => []                                  -- BIT
    | _ => indexReg (fieldZ w1)                  -- the other CB operations
  | _, _, _ => []

/-- The instruction writes SP (10_state.md R28). -/
def spWritten (w0 : Byte) : Bool :=
  match fieldX w0, fieldY w0, fieldZ w0 with
  | .q0, .o6, .o1 => true                        -- LD SP,d16
  | .q0, .o6, .o3 => true                        -- INC SP
  | .q0, .o7, .o3 => true                        -- DEC SP
  | .q3, .o0, .o0 => true                        -- RET NZ
  | .q3, .o1, .o0 => true                        -- RET Z
  | .q3, .o2, .o0 => true                        -- RET NC
  | .q3, .o3, .o0 => true                        -- RET C
  | .q3, .o5, .o0 => true                        -- ADD SP,e8
  | .q3, .o0, .o1 => true                        -- POP BC
  | .q3, .o2, .o1 => true                        -- POP DE
  | .q3, .o4, .o1 => true                        -- POP HL
  | .q3, .o6, .o1 => true                        -- POP AF
  | .q3, .o1, .o1 => true                        -- RET
  | .q3, .o3, .o1 => true                        -- RETI
  | .q3, .o7, .o1 => true                        -- LD SP,HL
  | .q3, .o0, .o4 => true                        -- CALL NZ
  | .q3, .o1, .o4 => true                        -- CALL Z
  | .q3, .o2, .o4 => true                        -- CALL NC
  | .q3, .o3, .o4 => true                        -- CALL C
  | .q3, .o0, .o5 => true                        -- PUSH BC
  | .q3, .o2, .o5 => true                        -- PUSH DE
  | .q3, .o4, .o5 => true                        -- PUSH HL
  | .q3, .o6, .o5 => true                        -- PUSH AF
  | .q3, .o1, .o5 => true                        -- CALL
  | .q3, _, .o7 => true                          -- RST
  | _, _, _ => false

/-! ### Memory -/

/-- The two bytes a push writes (46_control.md R154). -/
def pushAddrs (s : State) : List Word := [s.sp - 1, s.sp - 2]

/-- The addresses of the bytes an instruction stores to, in the state before it (20_memory.md R49, R57, 46_control.md R154). -/
def storeAddrs (w0 w1 w2 : Byte) (s : State) : List Word :=
  match fieldX w0, fieldY w0, fieldZ w0 with
  | .q0, .o1, .o0 => [join w2 w1, join w2 w1 + 1]                 -- LD (a16),SP
  | .q0, .o0, .o2 => [s.get16 .BC]                                -- LD (BC),A
  | .q0, .o2, .o2 => [s.get16 .DE]                                -- LD (DE),A
  | .q0, .o4, .o2 => [s.get16 .HL]                                -- LD (HL+),A
  | .q0, .o6, .o2 => [s.get16 .HL]                                -- LD (HL-),A
  | .q0, .o6, .o4 => [s.get16 .HL]                                -- INC (HL)
  | .q0, .o6, .o5 => [s.get16 .HL]                                -- DEC (HL)
  | .q0, .o6, .o6 => [s.get16 .HL]                                -- LD (HL),d8
  | .q1, .o6, .o6 => []                                           -- HALT
  | .q1, .o6, _ => [s.get16 .HL]                                  -- LD (HL),r
  | .q3, .o4, .o0 => [highPage w1]                                -- LDH (a8),A
  | .q3, .o4, .o2 => [highPage s.c]                               -- LD (C),A
  | .q3, .o5, .o2 => [join w2 w1]                                 -- LD (a16),A
  | .q3, .o0, .o4 => if s.cond condNZ then pushAddrs s else []    -- CALL NZ
  | .q3, .o1, .o4 => if s.cond condZ then pushAddrs s else []     -- CALL Z
  | .q3, .o2, .o4 => if s.cond condNC then pushAddrs s else []    -- CALL NC
  | .q3, .o3, .o4 => if s.cond condC then pushAddrs s else []     -- CALL C
  | .q3, .o0, .o5 => pushAddrs s                                  -- PUSH BC
  | .q3, .o2, .o5 => pushAddrs s                                  -- PUSH DE
  | .q3, .o4, .o5 => pushAddrs s                                  -- PUSH HL
  | .q3, .o6, .o5 => pushAddrs s                                  -- PUSH AF
  | .q3, .o1, .o5 => pushAddrs s                                  -- CALL
  | .q3, _, .o7 => pushAddrs s                                    -- RST
  | .q3, .o1, .o3 =>
    match fieldX w1, fieldZ w1 with
    | .q1, _ => []                                                -- BIT
    | _, .o6 => [s.get16 .HL]                                     -- the other CB operations on (HL)
    | _, _ => []
  | _, _, _ => []

/-! ### What the rules compute, in the claims' own words

These restate the pseudocode of the rules in numbers, apart from the operations the meanings use. -/

/-- `r8[i]` (00_scope.md R13, 30_encoding.md R70). -/
def State.r8 (s : State) (i : Oct) : Byte :=
  match i with
  | .o0 => s.b
  | .o1 => s.c
  | .o2 => s.d
  | .o3 => s.e
  | .o4 => s.h
  | .o5 => s.l
  | .o6 => s.read (join s.h s.l)
  | .o7 => s.a

/-- The state after `r8[i]` is read: what the read of (HL) does at a device of the `Bus`, nothing for a register (20_memory.md R44). -/
def State.touch (s : State) (i : Oct) : State :=
  match i with
  | .o6 => s.afterRead (join s.h s.l)
  | .o0 | .o1 | .o2 | .o3 | .o4 | .o5 | .o7 => s

/-- `r8[i] <- v` (00_scope.md R13, 30_encoding.md R70). -/
def State.putR8 (s : State) (i : Oct) (v : Byte) : State :=
  match i with
  | .o0 => { s with b := v }
  | .o1 => { s with c := v }
  | .o2 => { s with d := v }
  | .o3 => { s with e := v }
  | .o4 => { s with h := v }
  | .o5 => { s with l := v }
  | .o6 => s.write (join s.h s.l) v
  | .o7 => { s with a := v }

/-- The low nibble `v & 0x0F` as a number. -/
def lowNibble (v : Byte) : Nat := (v &&& 0x0F#8).toNat

/-- F.C as the number 0 or 1. -/
def State.carryIn (s : State) : Nat := s.flagC.toNat

/-- ADD, ADC: A and F after `a + b + c` (42_alu8.md R124, R125), PC past `n` bytes. -/
def State.added (s : State) (b : Byte) (c : Nat) (n : Word) : State :=
  let sum := s.a.toNat + b.toNat + c
  { s with
    a := BitVec.ofNat 8 (sum % 256)
    f := packFlags (sum % 256 == 0) false (decide (lowNibble s.a + lowNibble b + c > 0x0F)) (decide (sum > 0xFF)) s.f
    pc := s.pc + n }

/-- SUB, SBC, CP: F after `a - b - c` (42_alu8.md R126, R127, R131), A made `a'`, PC past `n` bytes. -/
def State.subtracted (s : State) (b : Byte) (c : Nat) (a' : Byte) (n : Word) : State :=
  { s with
    a := a'
    f := packFlags (((s.a.toNat : Int) - b.toNat - c) % 256 == 0) true (decide (lowNibble s.a < lowNibble b + c))
      (decide (s.a.toNat < b.toNat + c)) s.f
    pc := s.pc + n }

/-- `wrap8(a - b - c)` (00_scope.md R12). -/
def State.difference (s : State) (b : Byte) (c : Nat) : Byte := BitVec.ofInt 8 ((s.a.toNat : Int) - b.toNat - c)

/-- AND, XOR, OR: A made `r`, Z from it, N = 0, H as given, C = 0 (42_alu8.md R128 to R130), PC past `n` bytes. -/
def State.combined (s : State) (r : Byte) (h : Bool) (n : Word) : State :=
  { s with a := r, f := packFlags (decide (r = 0#8)) false h false s.f, pc := s.pc + n }

/-- ADD HL,rr with operand `v` (43_alu16.md R132). -/
def State.addedHL (s : State) (v : Word) : State :=
  let h := join s.h s.l
  let sum := h.toNat + v.toNat
  { s with
    h := BitVec.ofNat 8 (sum / 256)
    l := BitVec.ofNat 8 sum
    f := packFlags s.flagZ false (decide ((h &&& 0x0FFF#16).toNat + (v &&& 0x0FFF#16).toNat > 0x0FFF)) (decide (sum > 0xFFFF)) s.f
    pc := s.pc + 1 }

/-- `wrap16(SP + e8)` (43_alu16.md R133), e8 the signed value of the byte (00_scope.md R12). -/
def State.spPlus (s : State) (e : Byte) : Word := BitVec.ofInt 16 (s.sp.toNat + e.toInt)

/-- F after ADD SP,e8 and LD HL,SP+e8 (43_alu16.md R133, R134). -/
def State.spFlags (s : State) (e : Byte) : Byte :=
  packFlags false false (decide ((s.sp &&& 0x000F#16).toNat + lowNibble e > 0x0F))
    (decide ((s.sp &&& 0x00FF#16).toNat + e.toNat > 0xFF)) s.f

/-- The rotates, shifts and SWAP by field y (44_rotate_shift.md R141 to R148) as arithmetic on the operand's value: the result and
the carry, `c` being F.C before. -/
def rotated (y : Oct) (v c : Nat) : Nat × Bool :=
  match y with
  | .o0 => ((2 * v + v / 128) % 256, v / 128 == 1)        -- RLC
  | .o1 => (v / 2 + 128 * (v % 2), v % 2 == 1)            -- RRC
  | .o2 => ((2 * v + c) % 256, v / 128 == 1)              -- RL
  | .o3 => (v / 2 + 128 * c, v % 2 == 1)                  -- RR
  | .o4 => (2 * v % 256, v / 128 == 1)                    -- SLA
  | .o5 => (v / 2 + 128 * (v / 128), v % 2 == 1)          -- SRA
  | .o6 => (16 * (v % 16) + v / 16, false)                -- SWAP
  | .o7 => (v / 2, v % 2 == 1)                            -- SRL

/-- `pc_next + s8(imm8)` of a two-byte relative jump (46_control.md R156). -/
def State.relTarget (s : State) (e : Byte) : Word := BitVec.ofInt 16 (s.pc.toNat + 2 + e.toInt)

/-- `push16(v)`: the high byte at SP - 1, then the low byte at SP - 2, SP lowered by 2 (46_control.md R154). -/
def State.pushed (s : State) (v : Word) : State :=
  { (s.write (s.sp - 1) (hiByte v)).write (s.sp - 2) (loByte v) with sp := s.sp - 2 }

/-- The high byte of the word `pop16()` returns, read after the low byte (46_control.md R155, 20_memory.md R51). -/
def State.topHigh (s : State) : Byte := (s.afterRead s.sp).read (s.sp + 1)

/-- The word `pop16()` returns (46_control.md R155). -/
def State.top (s : State) : Word := join s.topHigh (s.read s.sp)

/-- The state `pop16()` leaves: both bytes read, SP raised by 2 (46_control.md R155). -/
def State.popped (s : State) : State := { (s.afterRead s.sp).afterRead (s.sp + 1) with sp := s.sp + 2 }

/-- DAA (47_misc.md R175) on A, F.N, F.H, F.C: the unwrapped a and the carry of the rule's pseudocode. -/
def daaNumber (a : Nat) (n h c : Bool) : Int × Bool :=
  if n then ((a : Int) - (if c then 0x60 else 0) - (if h then 0x06 else 0), c)
  else
    let high := c || decide (a > 0x99)
    let a1 := a + (if high then 0x60 else 0)
    (a1 + (if h || decide (a1 % 16 > 0x09) then 0x06 else 0), high)

/-- The byte with the two decimal digits of `x` (x < 100). -/
def bcd (x : Nat) : Byte := BitVec.ofNat 8 (16 * (x / 10) + x % 10)

/-- Address `0xFF00 + offset` of the high page (20_memory.md R59). -/
def highAddr (offset : Byte) : Word := BitVec.ofNat 16 (0xFF00 + offset.toNat)

/-- The eleven unused bytes (30_encoding.md R84). -/
def unusedBytes : List Byte := [0xD3, 0xDB, 0xDD, 0xE3, 0xE4, 0xEB, 0xEC, 0xED, 0xF4, 0xFC, 0xFD]

/-- The first bytes of length 2 (30_encoding.md R76). -/
def twoByteOps : List Byte :=
  [0x06, 0x0E, 0x16, 0x1E, 0x26, 0x2E, 0x36, 0x3E, 0x10, 0x18, 0x20, 0x28, 0x30, 0x38, 0xC6, 0xCE, 0xD6, 0xDE, 0xE6, 0xEE, 0xF6,
   0xFE, 0xE0, 0xF0, 0xE8, 0xF8, 0xCB]

/-- The first bytes of length 3 (30_encoding.md R76). -/
def threeByteOps : List Byte :=
  [0x01, 0x11, 0x21, 0x31, 0x08, 0xC2, 0xCA, 0xD2, 0xDA, 0xC3, 0xC4, 0xCC, 0xD4, 0xDC, 0xCD, 0xEA, 0xFA]

/-- The first bytes of the control transfers (46_control.md): JR, JP, CALL, RET, RETI, RST and their conditional forms. -/
def controlOps : List Byte :=
  [0x18, 0x20, 0x28, 0x30, 0x38, 0xC3, 0xC2, 0xCA, 0xD2, 0xDA, 0xE9, 0xCD, 0xC4, 0xCC, 0xD4, 0xDC, 0xC9, 0xC0, 0xC8, 0xD0, 0xD8,
   0xD9, 0xC7, 0xCF, 0xD7, 0xDF, 0xE7, 0xEF, 0xF7, 0xFF]

end Sys2Proof.Machine
end

