-- ==== Sys2Proof/WellFormed.lean ====
section
/-! DEFINITION. The instructions a decoder can answer. Every field of `Instr` has exactly the width its encoding gives it, so the
one check is that the prefix is not taken for an instruction of its own. -/

namespace Sys2Proof

/-- 0xCB "is not an instruction by itself" (30_encoding.md R83): the decoder answers the 0xCB instruction of the byte after the
prefix, never `prefix_CB` (log 12). -/
def Instr.wellFormed (i : Instr) : Bool :=
  match i with
  | .prefix_CB _ => false
  | _ => true

end Sys2Proof
end

