-- ==== Sys2Proof/Certificates/Slice0/Obligations.lean ====
section
/-! DEFINITION. The statements for the provers, each a rule of the spec, or derived from rules, about `exec`, `step`, the decoder or
the state. Statements by the bytes of an instruction hold for every constructor the decoder answers for them; `opByte x y z` is the
opcode with these fields (30_encoding.md R69). -/

open Sys2Proof Sys2Proof.Machine

/-- Under PowerOn, for every draw, Bus, initial memory and input sequence, PC is 0, IME and ei_pending are 0, the mode is Running, no fault is recorded, each register is its draw, F is its draw with bits 3..0 zero, and memory is the given one; under PostBootDMG the registers are the tabulated ones.
(R40) -/
def Obligations.ResetGivesTheTabulatedState : Prop :=
  (∀ (r : Config.Draws) (bus : Config.Bus) (m : List Host.Cell) (q : List (Option IrqLine)),
    let s := State.resetWith (.powerOn r) bus m q
    s.pc = 0x0000#16 ∧ s.sp = r.sp ∧ s.a = r.a ∧ s.f &&& 0xF0#8 = r.f &&& 0xF0#8 ∧ s.f &&& 0x0F#8 = 0#8 ∧ s.b = r.b ∧ s.c = r.c ∧
    s.d = r.d ∧ s.e = r.e ∧ s.h = r.h ∧ s.l = r.l ∧ s.ime = false ∧ s.eiPending = false ∧ s.mode = .running ∧ s.fault = none ∧
    s.mem = m) ∧
  ∀ (bus : Config.Bus) (m : List Host.Cell) (q : List (Option IrqLine)),
    let s := State.resetWith .postBootDMG bus m q
    s.pc = 0x0100#16 ∧ s.sp = 0xFFFE#16 ∧ s.a = 0x01#8 ∧ s.f = 0xB0#8 ∧ s.b = 0x00#8 ∧ s.c = 0x13#8 ∧ s.d = 0x00#8 ∧ s.e = 0xD8#8 ∧
    s.h = 0x01#8 ∧ s.l = 0x4D#8 ∧ s.ime = false ∧ s.eiPending = false ∧ s.mode = .running ∧ s.fault = none ∧ s.mem = m

/-- State.reset (whose zero draws, empty memory and empty inputs are the model's choices, log 1, 2 and 4), and every reset state over canonical memory, has memory in canonical form, F's low nibble zero, and a fault cell that says nothing false.
(10_state.md R21, R40, 70_reset_and_hazards.md R205) -/
def Obligations.ResetMeetsTheInvariants : Prop :=
  (State.reset.Inv ∧ State.reset.FaultInv) ∧
  ∀ (p : Config.ResetProfile) (bus : Config.Bus) (m : List Host.Cell) (q : List (Option IrqLine)),
    Memory.wf m → (State.resetWith p bus m q).Inv ∧ (State.resetWith p bus m q).FaultInv

/-- From every state whose memory is in canonical form and whose F has bits 3..0 zero, whatever the instruction, interrupt or Bus, a step that answers a next state leaves one with the same two properties.
(10_state.md R21, 20_memory.md R42) -/
def Obligations.StepKeepsInvariant : Prop :=
  ∀ s t : State, s.Inv → step s = .next t → t.Inv

/-- For every state s, with no premise, if a step answers next t and t has a fault recorded, then the address is PC, the byte is the byte read at PC, it is an unused opcode byte when the kind is IllegalOpcode, and 0x76 when it is HaltBug.
(60_exceptions.md R183, R186, 47_misc.md R180, R171) -/
def Obligations.StepRecordsTrueFaults : Prop :=
  ∀ s t : State, step s = .next t → t.FaultInv

/-- For every state s, if a step answers a next state in which a fault or refusal is recorded, that state equals s except for the fault cell: registers, flags, memory, PC, IME, ei_pending and mode are as before the step.
(R186) -/
def Obligations.FaultsArePrecise : Prop :=
  ∀ s t : State, step s = .next t → t.fault ≠ none → t = { s with fault := t.fault }

/-- In every state whose fault cell records IllegalOpcode the step answers that fault with the recorded address and byte; in every state whose fault cell records HaltBug it answers that refusal; it never answers a next state, so the cell is never cleared. That a recorded fault or refusal is the outcome of the later steps is the model's form (log 8).
(60_exceptions.md R184, R185, 10_state.md R38) -/
def Obligations.RecordedFaultEndsTheRun : Prop :=
  ∀ (s : State) (r : FaultRecord), s.fault = some r →
    (r.kind = .illegalOpcode → step s = .fault (.illegalOpcode r.address r.byte)) ∧
    (r.kind = .haltBug → step s = .refused (.haltBug r.address)) ∧
    ∀ t, step s ≠ .next t

/-- For each of the 512 constructors of Instr, with every operand, and every state, exec answers a next state; no meaning ends in a fault or a refusal; and the step answers a next state from every state with no fault recorded and mode not Stopped (a held step of a halted core passes its input only, log 6). That an unused byte and a refused HALT answer a next state with the fault recorded is the model's form (log 8), and prefix_CB, the row of the 0xCB prefix, is a constructor with a meaning of its own (log 12).
(60_exceptions.md R182 to R186, R194 to R196, 30_encoding.md R85) -/
def Obligations.EveryInstructionAnswersNext : Prop :=
  (∀ (i : Instr) (s : State), ∃ t, exec i s = .next t) ∧
  ∀ s : State, s.fault = none → s.mode ≠ .stopped → ∃ t, step s = .next t

/-- For every well-formed instruction, with every operand value, decoding its encoding followed by any bytes gives that instruction and exactly those bytes.
(30_encoding.md R65, R68, R75, R78, R81) -/
def Obligations.DecodeInvertsEncode : Prop :=
  ∀ (i : Instr) (rest : List Byte), i.wellFormed = true → decode (encode i ++ rest) = .ok (i, rest)

/-- For every list of bytes the decoder accepts, the answered instruction is well formed and its encoding followed by the answered rest is the list: no byte is read by two instructions, none is dropped.
(30_encoding.md R65, R77, R78, R81) -/
def Obligations.EncodeInvertsDecode : Prop :=
  ∀ (bytes : List Byte) (i : Instr) (rest : List Byte),
    decode bytes = .ok (i, rest) → i.wellFormed = true ∧ bytes = encode i ++ rest

/-- For every window of bytes the decoded instruction has size 2 for the first bytes of the length-2 list, 3 for those of the length-3 list, 0 for the eleven unused bytes, and 1 for every other byte.
(R76) -/
def Obligations.LengthIsToldByTheFirstByte : Prop :=
  ∀ w0 w1 w2 : Byte, (decodeWindow w0 w1 w2).size =
    if w0 ∈ twoByteOps then 2 else if w0 ∈ threeByteOps then 3 else if w0 ∈ unusedBytes then 0 else 1

/-- For every first byte of fetch length 1 the two bytes after it do not matter, and for every first byte of fetch length 2 the third does not.
(20_memory.md R62, 30_encoding.md R76) -/
def Obligations.DecoderReadsOnlyTheInstruction : Prop :=
  ∀ w0 w1 w2 v1 v2 : Byte,
    (fetchLength w0 = 1 → decodeWindow w0 w1 w2 = decodeWindow w0 v1 v2) ∧
    (fetchLength w0 = 2 → decodeWindow w0 w1 w2 = decodeWindow w0 w1 v2)

/-- For every window the decoded instruction is an Unimplemented one exactly when its first byte is one of the eleven, and then its size and its cycles are 0.
(R84) -/
def Obligations.ExactlyElevenBytesAreUnused : Prop :=
  ∀ w0 w1 w2 : Byte,
    ((decodeWindow w0 w1 w2).unimplemented = true ↔ w0 ∈ unusedBytes) ∧
    (w0 ∈ unusedBytes → (decodeWindow w0 w1 w2).size = 0 ∧ ∀ taken, cycles w0 w1 taken = 0)

/-- One word of each family, among them the decoder examples of 95_test_vectors.md 2.0, decodes to its instruction.
(30_encoding.md R77 to R81, 95_test_vectors.md 2.0) -/
def Obligations.SampleWordsDecode : Prop :=
  decodeWindow 0x76 0x00 0x00 = .halt ∧ decodeWindow 0x77 0x00 0x00 = .ld_mHL_A ∧ decodeWindow 0x46 0x00 0x00 = .ld_B_mHL ∧
  decodeWindow 0x86 0x00 0x00 = .add_A_mHL ∧ decodeWindow 0xBE 0x00 0x00 = .cp_mHL ∧ decodeWindow 0x10 0xFF 0x00 = .stop 0xFF ∧
  decodeWindow 0xCB 0x00 0x00 = .rlc_B ∧ decodeWindow 0xCB 0x36 0x00 = .swap_mHL ∧ decodeWindow 0xCB 0x7E 0x00 = .bit_7_mHL ∧
  decodeWindow 0xCB 0x80 0x00 = .res_0_B ∧ decodeWindow 0xCB 0xFF 0x00 = .set_7_A ∧
  decodeWindow 0x08 0x34 0x12 = .ld_ma16_SP 0x1234 ∧ decodeWindow 0xE8 0x80 0x00 = .add_SP_e8 0x80 ∧
  decodeWindow 0x3C 0x00 0x00 = .inc_A ∧ decodeWindow 0x39 0x00 0x00 = .add_HL_SP ∧ decodeWindow 0xCD 0x10 0x01 = .call 0x0110 ∧
  decodeWindow 0xF1 0x00 0x00 = .pop_AF ∧ decodeWindow 0x20 0xFA 0x00 = .jr_NZ 0xFA ∧ decodeWindow 0xD3 0x00 0x00 = .unused_D3

/-- In every state that can step and accepts no interrupt, with mode Running and EI promoted the step reads the bytes at PC, PC+1 and PC+2 as far as the first byte says, and when they decode to i it is exec of i on the state after those reads: if that records a fault, the state before with the fault recorded (log 9), else the state exec gives with the IrqPending input used up (log 4).
(60_exceptions.md R194, R186, 20_memory.md R62) -/
def Obligations.StepRunsTheDecodedInstruction : Prop :=
  ∀ (s t : State) (i : Instr), s.canStep → (s.ime = false ∨ s.irqPending = none) →
    let bytes := ({ s with mode := .running }.promoteEi).readBytes s.pc (fetchLength (s.read s.pc))
    decode bytes.1 = .ok (i, []) → exec i bytes.2 = .next t →
    step s = .next (match t.fault with
      | some r => { s with fault := some r }
      | none => { t with irqInputs := t.irqInputs.tail })

/-- For every state s and line n, the step acknowledges n exactly when IME is 1, the mode is not Stopped, no fault is recorded and IrqPending is n.
(R191) -/
def Obligations.InterruptIsAcceptedExactlyWhenAllowed : Prop :=
  ∀ (s : State) (n : IrqLine), (∃ t, step s = .next t ∧ t.acks = s.acks ++ [n]) ↔
    (s.ime = true ∧ s.mode ≠ .stopped ∧ s.fault = none ∧ s.irqPending = some n)

/-- In every state that accepts interrupt n the step answers exactly: IME and ei_pending 0, n acknowledged, PC pushed (high byte at SP-1, low byte at SP-2, SP lowered by 2), PC = 0x0040 + 8n, mode Running, this step's input used up, and every other cell but the stored bytes as before. That the step uses up one input is log 4, and the list of acknowledgements is log 5.
(60_exceptions.md R190, R192, R194, R195) -/
def Obligations.DispatchSavesPcAndJumps : Prop :=
  ∀ (s : State) (n : IrqLine), s.ime = true → s.mode ≠ .stopped → s.fault = none → s.irqPending = some n →
    step s = .next { s.pushed s.pc with
      ime := false
      eiPending := false
      acks := s.acks ++ [n]
      pc := match n with
        | .vblank => 0x0040#16
        | .lcdStat => 0x0048#16
        | .timer => 0x0050#16
        | .serial => 0x0058#16
        | .joypad => 0x0060#16
      mode := .running
      irqInputs := s.irqInputs.tail }

/-- In every running state with no fault, IME = 0 and ei_pending = 1 (the state EI leaves), whatever IrqPending is, the step runs the instruction at PC with IME = 1 and ei_pending = 0, and acknowledges nothing; when that instruction is DI, IME and ei_pending are 0 after it, so EI followed by DI accepts no interrupt.
(47_misc.md R173, R174, 60_exceptions.md R194, 70_reset_and_hazards.md R210) -/
def Obligations.NoInterruptBetweenEiAndTheNextInstruction : Prop :=
  ∀ s : State, s.fault = none → s.mode = .running → s.ime = false → s.eiPending = true →
    let u := { s with ime := true, eiPending := false }
    step s = settle s (exec u.fetch.1 u.fetch.2) ∧
    (∀ t, step s = .next t → t.acks = s.acks) ∧
    (s.read s.pc = 0xF3#8 → ∃ t, step s = .next t ∧ t.ime = false ∧ t.eiPending = false ∧ t.pc = s.pc + 1 ∧ t.acks = s.acks)

/-- In every halted state with no fault: with IrqPending none the step changes nothing but using up its input (the model's form of 'held', log 6); with an interrupt pending and IME = 0 the step is the step of the same state with mode Running, unless that records a fault.
(60_exceptions.md R195) -/
def Obligations.HaltedCoreHoldsUntilAnInterrupt : Prop :=
  ∀ s : State, s.fault = none → s.mode = .halted →
    (s.irqPending = none → step s = .next { s with irqInputs := s.irqInputs.tail }) ∧
    (s.irqPending ≠ none → s.ime = false → ∀ t, step { s with mode := .running } = .next t → t.fault = none → step s = .next t)

/-- HALT with IME = 0 and an interrupt pending records HaltBug with PC and 0x76 and changes nothing else; in every other state it sets mode Halted and advances PC by 1, and nothing else changes.
(R171) -/
def Obligations.HaltSetsModeOrIsRefused : Prop :=
  ∀ (s : State) (w1 w2 : Byte), decodeWindow 0x76 w1 w2 = .halt ∧
    (s.ime = false → s.irqPending ≠ none → exec .halt s = .next { s with fault := some ⟨.haltBug, s.pc, 0x76#8⟩ }) ∧
    ((s.ime = true ∨ s.irqPending = none) → exec .halt s = .next { s with mode := .halted, pc := s.pc + 1 })

/-- STOP with any second byte sets mode Stopped and advances PC by 2, and nothing else changes; a stopped core with no fault has no step, whatever is pending. That having no step is the outcome `.fault .stopped` is the model's form (log 7).
(47_misc.md R172, 60_exceptions.md R196) -/
def Obligations.StopEndsTheRun : Prop :=
  (∀ (s : State) (x w2 : Byte), decodeWindow 0x10 x w2 = .stop x ∧
    exec (.stop x) s = .next { s with mode := .stopped, pc := s.pc + 2 }) ∧
  ∀ s : State, s.fault = none → s.mode = .stopped → step s = .fault .stopped

/-- NOP only advances PC by 1; DI clears IME and ei_pending and advances PC by 1; EI sets ei_pending, leaves IME and advances PC by 1; nothing else changes.
(47_misc.md R170, R173, R174) -/
def Obligations.NopDiAndEi : Prop :=
  ∀ (s : State) (w1 w2 : Byte),
    (decodeWindow 0x00 w1 w2 = .nop ∧ exec .nop s = .next { s with pc := s.pc + 1 }) ∧
    (decodeWindow 0xF3 w1 w2 = .di ∧ exec .di s = .next { s with ime := false, eiPending := false, pc := s.pc + 1 }) ∧
    (decodeWindow 0xFB w1 w2 = .ei ∧ exec .ei s = .next { s with eiPending := true, pc := s.pc + 1 })

/-- For unused_D3, unused_DB, unused_DD, unused_E3, unused_E4, unused_EB, unused_EC, unused_ED, unused_F4, unused_FC and unused_FD, in every state, exec answers the state with the fault cell holding IllegalOpcode, PC and the byte, and every other cell as before.
(R180) -/
def Obligations.UnusedBytesRecordIllegalOpcode : Prop :=
  ∀ w0 ∈ unusedBytes, ∀ (w1 w2 : Byte) (s : State),
    exec (decodeWindow w0 w1 w2) s = .next { s with fault := some ⟨.illegalOpcode, s.pc, w0⟩ }

/-- For all (y, z) but (6, 6) the opcode 0b01yyyzzz (the 63 constructors ld_B_B to ld_A_A of that block: 49 register forms, 7 from (HL), 7 to (HL)) writes r8[z] to r8[y] and advances PC by 1; for all y the opcode 0b00yyy110 with immediate d8 (ld_B_d8, ld_C_d8, ld_D_d8, ld_E_d8, ld_H_d8, ld_L_d8, ld_mHL_d8, ld_A_d8) writes d8 to r8[y] and advances PC by 2; nothing else changes but what the Bus does at a device's address, no flag among it.
(R92, R93, R94, R95, R96) -/
def Obligations.RegisterMemoryAndImmediateLoads : Prop :=
  ∀ (y z : Oct) (d8 w1 w2 : Byte) (s : State),
    (¬(y = .o6 ∧ z = .o6) →
      exec (decodeWindow (opByte .q1 y z) w1 w2) s = .next { (s.touch z).putR8 y (s.r8 z) with pc := s.pc + 1 }) ∧
    exec (decodeWindow (opByte .q0 y .o6) d8 w2) s = .next { s.putR8 y d8 with pc := s.pc + 2 }

/-- In every state whose address map is empty (the default Bus, which State.reset has) and whose memory is canonical, a read changes nothing, a byte written is the byte read there and every other byte is as before, and a step keeps the Bus and logs no access; from a reset with the default Bus, whatever the launch, each address reads its launch content.
(00_scope.md R10, 20_memory.md R44, R50) -/
def Obligations.TheDefaultBusIsTheFlatStore : Prop :=
  (∀ s : State, s.bus.regions = [] → Memory.wf s.mem →
    (∀ a : Word, s.afterRead a = s) ∧
    (∀ (a b : Word) (v : Byte), (s.write a v).read b = if b = a then v else s.read b) ∧
    ∀ t, step s = .next t → t.bus = s.bus ∧ t.busLog = s.busLog) ∧
  (∀ (p : Config.ResetProfile) (m : List Host.Cell) (q : List (Option IrqLine)) (a : Word),
    (State.resetWith p Config.Bus.flat m q).read a = readCells m a.toNat) ∧
  State.reset.bus.regions = []

/-- LD (BC),A, LD (DE),A, LD A,(BC), LD A,(DE) access the byte at the pair; the four (HL+) and (HL-) forms access the byte at the old HL and leave HL one higher or lower modulo 65536; PC advances by 1 and nothing else changes but what the Bus does at a device's address.
(R97, R98, R99, R100, R101, R102, R103, R104) -/
def Obligations.AccumulatorLoadsThroughPairs : Prop :=
  ∀ (w1 w2 : Byte) (s : State),
    let bc := join s.b s.c
    let de := join s.d s.e
    let hl := join s.h s.l
    (decodeWindow 0x02 w1 w2 = .ld_mBC_A ∧ exec .ld_mBC_A s = .next { s.write bc s.a with pc := s.pc + 1 }) ∧
    (decodeWindow 0x12 w1 w2 = .ld_mDE_A ∧ exec .ld_mDE_A s = .next { s.write de s.a with pc := s.pc + 1 }) ∧
    (decodeWindow 0x0A w1 w2 = .ld_A_mBC ∧ exec .ld_A_mBC s = .next { s.afterRead bc with a := s.read bc, pc := s.pc + 1 }) ∧
    (decodeWindow 0x1A w1 w2 = .ld_A_mDE ∧ exec .ld_A_mDE s = .next { s.afterRead de with a := s.read de, pc := s.pc + 1 }) ∧
    (decodeWindow 0x22 w1 w2 = .ld_mHLi_A ∧ exec .ld_mHLi_A s =
      .next { s.write hl s.a with h := hiByte (hl + 1), l := loByte (hl + 1), pc := s.pc + 1 }) ∧
    (decodeWindow 0x32 w1 w2 = .ld_mHLd_A ∧ exec .ld_mHLd_A s =
      .next { s.write hl s.a with h := hiByte (hl - 1), l := loByte (hl - 1), pc := s.pc + 1 }) ∧
    (decodeWindow 0x2A w1 w2 = .ld_A_mHLi ∧ exec .ld_A_mHLi s =
      .next { s.afterRead hl with a := s.read hl, h := hiByte (hl + 1), l := loByte (hl + 1), pc := s.pc + 1 }) ∧
    (decodeWindow 0x3A w1 w2 = .ld_A_mHLd ∧ exec .ld_A_mHLd s =
      .next { s.afterRead hl with a := s.read hl, h := hiByte (hl - 1), l := loByte (hl - 1), pc := s.pc + 1 })

/-- LD (a16),A and LD A,(a16) access the byte at a16, little-endian in the instruction; LDH and LD (C) forms access the byte at 0xFF00 + offset; PC advances by the length and nothing else changes but what the Bus does at a device's address.
(R105, R106, R107, R108, R109, R110) -/
def Obligations.AbsoluteAndHighPageLoads : Prop :=
  ∀ (w1 w2 : Byte) (s : State),
    let a16 := BitVec.ofNat 16 (w1.toNat + 256 * w2.toNat)
    exec (decodeWindow 0xEA w1 w2) s = .next { s.write a16 s.a with pc := s.pc + 3 } ∧
    exec (decodeWindow 0xFA w1 w2) s = .next { s.afterRead a16 with a := s.read a16, pc := s.pc + 3 } ∧
    exec (decodeWindow 0xE0 w1 w2) s = .next { s.write (highAddr w1) s.a with pc := s.pc + 2 } ∧
    exec (decodeWindow 0xF0 w1 w2) s = .next { s.afterRead (highAddr w1) with a := s.read (highAddr w1), pc := s.pc + 2 } ∧
    exec (decodeWindow 0xE2 w1 w2) s = .next { s.write (highAddr s.c) s.a with pc := s.pc + 1 } ∧
    exec (decodeWindow 0xF2 w1 w2) s = .next { s.afterRead (highAddr s.c) with a := s.read (highAddr s.c), pc := s.pc + 1 } ∧
    decodeWindow 0xEA w1 w2 = .ld_ma16_A a16 ∧ decodeWindow 0xFA w1 w2 = .ld_A_ma16 a16 ∧ decodeWindow 0xE0 w1 w2 = .ldh_ma8_A w1 ∧
    decodeWindow 0xF0 w1 w2 = .ldh_A_ma8 w1 ∧ decodeWindow 0xE2 w1 w2 = .ld_mC_A ∧ decodeWindow 0xF2 w1 w2 = .ld_A_mC

/-- LD BC,d16, LD DE,d16, LD HL,d16 write both cells of the pair (high byte from the third byte, low byte from the second), LD SP,d16 writes SP, LD (a16),SP writes SP[7:0] at a16 and then SP[15:8] at a16+1 modulo 65536, LD SP,HL copies HL; PC advances by the length and nothing else changes but what the Bus does at a device's address.
(R111, R112, R113) -/
def Obligations.SixteenBitLoads : Prop :=
  ∀ (w1 w2 : Byte) (s : State),
    let w := BitVec.ofNat 16 (w1.toNat + 256 * w2.toNat)
    (decodeWindow 0x01 w1 w2 = .ld_BC_d16 w ∧ exec (.ld_BC_d16 w) s = .next { s with b := w2, c := w1, pc := s.pc + 3 }) ∧
    (decodeWindow 0x11 w1 w2 = .ld_DE_d16 w ∧ exec (.ld_DE_d16 w) s = .next { s with d := w2, e := w1, pc := s.pc + 3 }) ∧
    (decodeWindow 0x21 w1 w2 = .ld_HL_d16 w ∧ exec (.ld_HL_d16 w) s = .next { s with h := w2, l := w1, pc := s.pc + 3 }) ∧
    (decodeWindow 0x31 w1 w2 = .ld_SP_d16 w ∧ exec (.ld_SP_d16 w) s = .next { s with sp := w, pc := s.pc + 3 }) ∧
    (decodeWindow 0x08 w1 w2 = .ld_ma16_SP w ∧ exec (.ld_ma16_SP w) s =
      .next { (s.write w (BitVec.ofNat 8 s.sp.toNat)).write (w + 1) (BitVec.ofNat 8 (s.sp.toNat / 256)) with pc := s.pc + 3 }) ∧
    (decodeWindow 0xF9 w1 w2 = .ld_SP_HL ∧ exec .ld_SP_HL s = .next { s with sp := join s.h s.l, pc := s.pc + 1 })

/-- For all y the opcode 0b00yyy100 (inc_B to inc_A, inc_mHL) writes wrap8(v + 1) to r8[y] with Z of the result, N = 0, H when v & 0x0F is 0x0F; 0b00yyy101 (dec_B to dec_A, dec_mHL) writes wrap8(v - 1) with Z, N = 1, H when v & 0x0F is 0; C is unchanged, PC advances by 1, nothing else changes but what the Bus does at a device's address.
(R115, R116, R117, R118) -/
def Obligations.ByteIncrementAndDecrement : Prop :=
  ∀ (y : Oct) (w1 w2 : Byte) (s : State),
    let v := (s.r8 y).toNat
    exec (decodeWindow (opByte .q0 y .o4) w1 w2) s = .next { (s.touch y).putR8 y (BitVec.ofNat 8 (v + 1)) with
      f := packFlags ((v + 1) % 256 == 0) false (lowNibble (s.r8 y) == 0x0F) s.flagC s.f
      pc := s.pc + 1 } ∧
    exec (decodeWindow (opByte .q0 y .o5) w1 w2) s = .next { (s.touch y).putR8 y (BitVec.ofNat 8 (v + 255)) with
      f := packFlags (v == 1) true (lowNibble (s.r8 y) == 0x00) s.flagC s.f
      pc := s.pc + 1 }

/-- INC BC, DE, HL, SP and DEC BC, DE, HL, SP add or subtract 1 modulo 65536 in the pair or SP, advance PC by 1, and change nothing else, no flag among it.
(R119, R120) -/
def Obligations.PairIncrementAndDecrement : Prop :=
  ∀ (w1 w2 : Byte) (s : State),
    let bc := join s.b s.c
    let de := join s.d s.e
    let hl := join s.h s.l
    (decodeWindow 0x03 w1 w2 = .inc_BC ∧
      exec .inc_BC s = .next { s with b := hiByte (bc + 1), c := loByte (bc + 1), pc := s.pc + 1 }) ∧
    (decodeWindow 0x13 w1 w2 = .inc_DE ∧
      exec .inc_DE s = .next { s with d := hiByte (de + 1), e := loByte (de + 1), pc := s.pc + 1 }) ∧
    (decodeWindow 0x23 w1 w2 = .inc_HL ∧
      exec .inc_HL s = .next { s with h := hiByte (hl + 1), l := loByte (hl + 1), pc := s.pc + 1 }) ∧
    (decodeWindow 0x33 w1 w2 = .inc_SP ∧ exec .inc_SP s = .next { s with sp := s.sp + 1, pc := s.pc + 1 }) ∧
    (decodeWindow 0x0B w1 w2 = .dec_BC ∧
      exec .dec_BC s = .next { s with b := hiByte (bc - 1), c := loByte (bc - 1), pc := s.pc + 1 }) ∧
    (decodeWindow 0x1B w1 w2 = .dec_DE ∧
      exec .dec_DE s = .next { s with d := hiByte (de - 1), e := loByte (de - 1), pc := s.pc + 1 }) ∧
    (decodeWindow 0x2B w1 w2 = .dec_HL ∧
      exec .dec_HL s = .next { s with h := hiByte (hl - 1), l := loByte (hl - 1), pc := s.pc + 1 }) ∧
    (decodeWindow 0x3B w1 w2 = .dec_SP ∧ exec .dec_SP s = .next { s with sp := s.sp - 1, pc := s.pc + 1 })

/-- For every 8-bit register r (index y other than 6) and every state, INC r then DEC r both answer a next state, r holds its first value again and F.C is what it was before.
(R121) -/
def Obligations.IncThenDecRestoresTheRegister : Prop :=
  ∀ (y : Oct) (w1 w2 : Byte) (s : State), y ≠ .o6 →
    ∃ t u, exec (decodeWindow (opByte .q0 y .o4) w1 w2) s = .next t ∧ exec (decodeWindow (opByte .q0 y .o5) w1 w2) t = .next u ∧
      u.r8 y = s.r8 y ∧ u.flagC = s.flagC

/-- For the opcodes 0x80+z and 0xC6 (add_A_B to add_A_A, add_A_mHL, add_A_d8) A becomes wrap8(a + b), and for 0x88+z and 0xCE (adc_A_*) wrap8(a + b + c), with Z of the result, N = 0, H the carry out of bit 3, C the carry out of bit 7, the carry in counted in both; PC advances by the length and nothing else changes but what the Bus does at a device's address.
(R124, R125) -/
def Obligations.AddAndAdc : Prop :=
  ∀ (z : Oct) (w1 w2 : Byte) (s : State),
    exec (decodeWindow (opByte .q2 .o0 z) w1 w2) s = .next ((s.touch z).added (s.r8 z) 0 1) ∧
    exec (decodeWindow 0xC6 w1 w2) s = .next (s.added w1 0 2) ∧
    exec (decodeWindow (opByte .q2 .o1 z) w1 w2) s = .next ((s.touch z).added (s.r8 z) s.carryIn 1) ∧
    exec (decodeWindow 0xCE w1 w2) s = .next (s.added w1 s.carryIn 2)

/-- For the opcodes 0x90+z and 0xD6 (sub_*) A becomes wrap8(a - b), and for 0x98+z and 0xDE (sbc_A_*) wrap8(a - b - c), with Z of the result, N = 1, H the borrow from bit 4 and C the borrow beyond bit 7, the borrow in counted in both; for 0xB8+z and 0xFE (cp_*) F gets SUB's flags and A is unchanged; PC advances by the length and nothing else changes but what the Bus does at a device's address.
(R126, R127, R131) -/
def Obligations.SubSbcAndCp : Prop :=
  ∀ (z : Oct) (w1 w2 : Byte) (s : State),
    exec (decodeWindow (opByte .q2 .o2 z) w1 w2) s = .next ((s.touch z).subtracted (s.r8 z) 0 (s.difference (s.r8 z) 0) 1) ∧
    exec (decodeWindow 0xD6 w1 w2) s = .next (s.subtracted w1 0 (s.difference w1 0) 2) ∧
    exec (decodeWindow (opByte .q2 .o3 z) w1 w2) s =
      .next ((s.touch z).subtracted (s.r8 z) s.carryIn (s.difference (s.r8 z) s.carryIn) 1) ∧
    exec (decodeWindow 0xDE w1 w2) s = .next (s.subtracted w1 s.carryIn (s.difference w1 s.carryIn) 2) ∧
    exec (decodeWindow (opByte .q2 .o7 z) w1 w2) s = .next ((s.touch z).subtracted (s.r8 z) 0 s.a 1) ∧
    exec (decodeWindow 0xFE w1 w2) s = .next (s.subtracted w1 0 s.a 2)

/-- For the opcodes 0xA0+z, 0xE6 (and_*), 0xA8+z, 0xEE (xor_*), 0xB0+z, 0xF6 (or_*) A becomes the bitwise and, exclusive or, or of A and the operand, with Z of the result, N = 0, H = 1 for AND and 0 for XOR and OR, C = 0; PC advances by the length and nothing else changes but what the Bus does at a device's address.
(R128, R129, R130) -/
def Obligations.LogicalOperations : Prop :=
  ∀ (z : Oct) (w1 w2 : Byte) (s : State),
    exec (decodeWindow (opByte .q2 .o4 z) w1 w2) s = .next ((s.touch z).combined (s.a &&& s.r8 z) true 1) ∧
    exec (decodeWindow 0xE6 w1 w2) s = .next (s.combined (s.a &&& w1) true 2) ∧
    exec (decodeWindow (opByte .q2 .o5 z) w1 w2) s = .next ((s.touch z).combined (s.a ^^^ s.r8 z) false 1) ∧
    exec (decodeWindow 0xEE w1 w2) s = .next (s.combined (s.a ^^^ w1) false 2) ∧
    exec (decodeWindow (opByte .q2 .o6 z) w1 w2) s = .next ((s.touch z).combined (s.a ||| s.r8 z) false 1) ∧
    exec (decodeWindow 0xF6 w1 w2) s = .next (s.combined (s.a ||| w1) false 2)

/-- ADD HL,BC, ADD HL,DE, ADD HL,HL and ADD HL,SP leave HL = wrap16(HL + rr), Z unchanged, N = 0, H the carry out of bit 11, C the carry out of bit 15, PC advanced by 1, and nothing else changed.
(R132) -/
def Obligations.AddToHl : Prop :=
  ∀ (w1 w2 : Byte) (s : State),
    (decodeWindow 0x09 w1 w2 = .add_HL_BC ∧ exec .add_HL_BC s = .next (s.addedHL (join s.b s.c))) ∧
    (decodeWindow 0x19 w1 w2 = .add_HL_DE ∧ exec .add_HL_DE s = .next (s.addedHL (join s.d s.e))) ∧
    (decodeWindow 0x29 w1 w2 = .add_HL_HL ∧ exec .add_HL_HL s = .next (s.addedHL (join s.h s.l))) ∧
    (decodeWindow 0x39 w1 w2 = .add_HL_SP ∧ exec .add_HL_SP s = .next (s.addedHL s.sp))

/-- ADD SP,e8 leaves SP = wrap16(SP + e8) and LD HL,SP+e8 leaves HL = wrap16(SP + e8) with SP unchanged, e8 signed; Z = N = 0, H and C the carries out of bits 3 and 7 of the unsigned low bytes; PC advances by 2 and nothing else changes.
(R133, R134) -/
def Obligations.SpPlusSignedByte : Prop :=
  ∀ (e w2 : Byte) (s : State),
    (decodeWindow 0xE8 e w2 = .add_SP_e8 e ∧
      exec (.add_SP_e8 e) s = .next { s with sp := s.spPlus e, f := s.spFlags e, pc := s.pc + 2 }) ∧
    (decodeWindow 0xF8 e w2 = .ld_HL_SPe8 e ∧
      exec (.ld_HL_SPe8 e) s = .next { s with h := hiByte (s.spPlus e), l := loByte (s.spPlus e), f := s.spFlags e, pc := s.pc + 2 })

/-- RLCA, RRCA, RLA and RRA leave in A the value and in F.C the carry of RLC, RRC, RL and RR on A, with Z, N and H cleared whatever the result; PC advances by 1 and nothing else changes.
(R137, R138, R139, R140) -/
def Obligations.AccumulatorRotates : Prop :=
  ∀ (w1 w2 : Byte) (s : State),
    let out := fun (y : Oct) => { s with
      a := BitVec.ofNat 8 (rotated y s.a.toNat s.carryIn).1
      f := packFlags false false false (rotated y s.a.toNat s.carryIn).2 s.f
      pc := s.pc + 1 }
    (decodeWindow 0x07 w1 w2 = .rlca ∧ exec .rlca s = .next (out .o0)) ∧
    (decodeWindow 0x0F w1 w2 = .rrca ∧ exec .rrca s = .next (out .o1)) ∧
    (decodeWindow 0x17 w1 w2 = .rla ∧ exec .rla s = .next (out .o2)) ∧
    (decodeWindow 0x1F w1 w2 = .rra ∧ exec .rra s = .next (out .o3))

/-- For all y and z the bytes 0xCB, 0b00yyyzzz (the 64 constructors rlc_*, rrc_*, rl_*, rr_*, sla_*, sra_*, swap_*, srl_*) write to r8[z] the rotated or shifted value, with Z of the result, N = H = 0 and C the bit shifted out (0 for SWAP); PC advances by 2 and nothing else changes but what the Bus does at a device's address.
(R141, R142, R143, R144, R145, R146, R147, R148) -/
def Obligations.PrefixedRotatesAndShifts : Prop :=
  ∀ (y z : Oct) (w2 : Byte) (s : State),
    let r := rotated y (s.r8 z).toNat s.carryIn
    exec (decodeWindow 0xCB (opByte .q0 y z) w2) s = .next { (s.touch z).putR8 z (BitVec.ofNat 8 r.1) with
      f := packFlags (r.1 == 0) false false r.2 s.f
      pc := s.pc + 2 }

/-- For all n and z the bytes 0xCB, 0b01nnnzzz (the 64 constructors bit_n_r) leave Z = 1 exactly when bit n of r8[z] is 0, N = 0, H = 1, C unchanged, PC advanced by 2, and nothing else changed but what the Bus does at a device's address.
(R149) -/
def Obligations.BitTests : Prop :=
  ∀ (n z : Oct) (w2 : Byte) (s : State),
    exec (decodeWindow 0xCB (opByte .q1 n z) w2) s = .next { s.touch z with
      f := packFlags ((s.r8 z).toNat / 2 ^ n.value % 2 == 0) false true s.flagC s.f
      pc := s.pc + 2 }

/-- For all n and z the bytes 0xCB, 0b10nnnzzz (the 64 constructors res_n_r) and 0xCB, 0b11nnnzzz (set_n_r) write to r8[z] a byte equal to it but for bit n, which is 0 or 1; PC advances by 2 and nothing else changes but what the Bus does at a device's address.
(R150, R151) -/
def Obligations.BitResetAndSet : Prop :=
  ∀ (n z : Oct) (w2 : Byte) (s : State),
    (∃ v : Byte, exec (decodeWindow 0xCB (opByte .q2 n z) w2) s = .next { (s.touch z).putR8 z v with pc := s.pc + 2 } ∧
      ∀ i < 8, v.getLsbD i = if i = n.value then false else (s.r8 z).getLsbD i) ∧
    (∃ v : Byte, exec (decodeWindow 0xCB (opByte .q3 n z) w2) s = .next { (s.touch z).putR8 z v with pc := s.pc + 2 } ∧
      ∀ i < 8, v.getLsbD i = if i = n.value then true else (s.r8 z).getLsbD i)

/-- JR leaves PC = wrap16(PC + 2 + e8), e8 signed; JR NZ, Z, NC, C do so when Z is 0, Z is 1, C is 0, C is 1 and else advance PC by 2; JP leaves PC = imm16; JP NZ, Z, NC, C do so when the condition holds and else advance PC by 3; JP HL leaves PC = HL; nothing else changes.
(R156, R157, R158, R159, R160) -/
def Obligations.JumpsSetPc : Prop :=
  ∀ (w1 w2 : Byte) (s : State),
    let a16 := BitVec.ofNat 16 (w1.toNat + 256 * w2.toNat)
    let rel := fun (taken : Bool) => { s with pc := if taken then s.relTarget w1 else s.pc + 2 }
    let go := fun (taken : Bool) => { s with pc := if taken then a16 else s.pc + 3 }
    (decodeWindow 0x18 w1 w2 = .jr w1 ∧ exec (.jr w1) s = .next (rel true)) ∧
    (decodeWindow 0x20 w1 w2 = .jr_NZ w1 ∧ exec (.jr_NZ w1) s = .next (rel (!s.f.getLsbD 7))) ∧
    (decodeWindow 0x28 w1 w2 = .jr_Z w1 ∧ exec (.jr_Z w1) s = .next (rel (s.f.getLsbD 7))) ∧
    (decodeWindow 0x30 w1 w2 = .jr_NC w1 ∧ exec (.jr_NC w1) s = .next (rel (!s.f.getLsbD 4))) ∧
    (decodeWindow 0x38 w1 w2 = .jr_C w1 ∧ exec (.jr_C w1) s = .next (rel (s.f.getLsbD 4))) ∧
    (decodeWindow 0xC3 w1 w2 = .jp a16 ∧ exec (.jp a16) s = .next (go true)) ∧
    (decodeWindow 0xC2 w1 w2 = .jp_NZ a16 ∧ exec (.jp_NZ a16) s = .next (go (!s.f.getLsbD 7))) ∧
    (decodeWindow 0xCA w1 w2 = .jp_Z a16 ∧ exec (.jp_Z a16) s = .next (go (s.f.getLsbD 7))) ∧
    (decodeWindow 0xD2 w1 w2 = .jp_NC a16 ∧ exec (.jp_NC a16) s = .next (go (!s.f.getLsbD 4))) ∧
    (decodeWindow 0xDA w1 w2 = .jp_C a16 ∧ exec (.jp_C a16) s = .next (go (s.f.getLsbD 4))) ∧
    (decodeWindow 0xE9 w1 w2 = .jp_HL ∧ exec .jp_HL s = .next { s with pc := join s.h s.l })

/-- For every state and address: where ROM answers, a read gives the store's byte and neither a read nor a write changes anything; where a device answers, a read gives the value of the next answer, and a read or a write changes the bytes of the store that the answer names and no other and is logged; with no answer left the device is the flat store and the access is logged; a reset has the Bus it is given; every step keeps the address map and uses one answer, in order, for each access it logs, all of them to devices. The form of the answers, and that a spent device is flat, are the model's choice (log 23).
(00_scope.md R10, 20_memory.md R43, R44, R50) -/
def Obligations.TheBusAnswersEveryAccess : Prop :=
  (∀ (s : State) (a : Word) (v : Byte),
    (s.kindAt a = .rom → s.read a = s.peek a ∧ s.afterRead a = s ∧ s.write a v = s) ∧
    (∀ r rest, s.kindAt a = .device → s.bus.answers = r :: rest →
      let u := { s with mem := applyStores s.mem r.stores, bus := { s.bus with answers := rest } }
      s.read a = r.value ∧ s.afterRead a = { u with busLog := s.busLog ++ [.read a] } ∧
      s.write a v = { u with busLog := s.busLog ++ [.write a v] }) ∧
    (s.kindAt a = .device → s.bus.answers = [] →
      s.read a = s.peek a ∧ s.afterRead a = { s with busLog := s.busLog ++ [.read a] } ∧
      s.write a v = { s.poke a v with busLog := s.busLog ++ [.write a v] })) ∧
  (∀ (s : State) (l : List (Word × Byte)) (a : Word), Memory.wf s.mem → (∀ x ∈ l, x.1 ≠ a) →
    readCells (applyStores s.mem l) a.toNat = s.peek a) ∧
  (∀ (p : Config.ResetProfile) (bus : Config.Bus) (m : List Host.Cell) (q : List (Option IrqLine)),
    (State.resetWith p bus m q).bus = bus ∧ (State.resetWith p bus m q).busLog = []) ∧
  ∀ s t : State, step s = .next t → t.bus.regions = s.bus.regions ∧
    ∃ seen, t.busLog = s.busLog ++ seen ∧ t.bus.answers = s.bus.answers.drop seen.length ∧
      ∀ x ∈ seen, s.kindAt x.address = .device

/-- CALL and CALL cc (call, call_NZ, call_Z, call_NC, call_C) and RST (rst_00, rst_08, rst_10, rst_18, rst_20, rst_28, rst_30, rst_38) push the return address and jump.
(R161, R162, R166) -/
def Obligations.CallsPushTheReturnAddress : Prop :=
  ∀ (w1 w2 : Byte) (s : State),
    let a16 := BitVec.ofNat 16 (w1.toNat + 256 * w2.toNat)
    let go := fun (taken : Bool) => if taken then { s.pushed (s.pc + 3) with pc := a16 } else { s with pc := s.pc + 3 }
    (decodeWindow 0xCD w1 w2 = .call a16 ∧ exec (.call a16) s = .next (go true)) ∧
    (decodeWindow 0xC4 w1 w2 = .call_NZ a16 ∧ exec (.call_NZ a16) s = .next (go (!s.f.getLsbD 7))) ∧
    (decodeWindow 0xCC w1 w2 = .call_Z a16 ∧ exec (.call_Z a16) s = .next (go (s.f.getLsbD 7))) ∧
    (decodeWindow 0xD4 w1 w2 = .call_NC a16 ∧ exec (.call_NC a16) s = .next (go (!s.f.getLsbD 4))) ∧
    (decodeWindow 0xDC w1 w2 = .call_C a16 ∧ exec (.call_C a16) s = .next (go (s.f.getLsbD 4))) ∧
    ∀ y : Oct, exec (decodeWindow (opByte .q3 y .o7) w1 w2) s =
      .next { s.pushed (s.pc + 1) with pc := BitVec.ofNat 16 (8 * y.value) }

/-- RET leaves PC the word at SP and SP raised by 2 modulo 65536; RET NZ, Z, NC, C do so when the condition holds and else only advance PC by 1 with no stack access; RETI does as RET and sets IME; nothing else changes but what the Bus does at a device's address.
(R163, R164, R165) -/
def Obligations.ReturnsPopPc : Prop :=
  ∀ (w1 w2 : Byte) (s : State),
    let go := fun (taken : Bool) => if taken then { s.popped with pc := s.top } else { s with pc := s.pc + 1 }
    (decodeWindow 0xC9 w1 w2 = .ret ∧ exec .ret s = .next (go true)) ∧
    (decodeWindow 0xC0 w1 w2 = .ret_NZ ∧ exec .ret_NZ s = .next (go (!s.f.getLsbD 7))) ∧
    (decodeWindow 0xC8 w1 w2 = .ret_Z ∧ exec .ret_Z s = .next (go (s.f.getLsbD 7))) ∧
    (decodeWindow 0xD0 w1 w2 = .ret_NC ∧ exec .ret_NC s = .next (go (!s.f.getLsbD 4))) ∧
    (decodeWindow 0xD8 w1 w2 = .ret_C ∧ exec .ret_C s = .next (go (s.f.getLsbD 4))) ∧
    (decodeWindow 0xD9 w1 w2 = .reti ∧ exec .reti s = .next { s.popped with pc := s.top, ime := true })

/-- PUSH BC, DE, HL, AF push the pair, high byte at SP - 1 and low byte at SP - 2; POP BC, DE, HL, AF load the pair from the word at SP, its high byte from SP + 1, and raise SP by 2; POP AF forces bits 3..0 of F to 0; PC advances by 1 and nothing else changes but what the Bus does at a device's address.
(R167, R168, R169) -/
def Obligations.PushAndPop : Prop :=
  ∀ (w1 w2 : Byte) (s : State),
    let lo := s.read s.sp
    let hi := s.topHigh
    (decodeWindow 0xC5 w1 w2 = .push_BC ∧ exec .push_BC s = .next { s.pushed (join s.b s.c) with pc := s.pc + 1 }) ∧
    (decodeWindow 0xD5 w1 w2 = .push_DE ∧ exec .push_DE s = .next { s.pushed (join s.d s.e) with pc := s.pc + 1 }) ∧
    (decodeWindow 0xE5 w1 w2 = .push_HL ∧ exec .push_HL s = .next { s.pushed (join s.h s.l) with pc := s.pc + 1 }) ∧
    (decodeWindow 0xF5 w1 w2 = .push_AF ∧ exec .push_AF s = .next { s.pushed (join s.a s.f) with pc := s.pc + 1 }) ∧
    (decodeWindow 0xC1 w1 w2 = .pop_BC ∧ exec .pop_BC s = .next { s.popped with b := hi, c := lo, pc := s.pc + 1 }) ∧
    (decodeWindow 0xD1 w1 w2 = .pop_DE ∧ exec .pop_DE s = .next { s.popped with d := hi, e := lo, pc := s.pc + 1 }) ∧
    (decodeWindow 0xE1 w1 w2 = .pop_HL ∧ exec .pop_HL s = .next { s.popped with h := hi, l := lo, pc := s.pc + 1 }) ∧
    (decodeWindow 0xF1 w1 w2 = .pop_AF ∧
      exec .pop_AF s = .next { s.popped with a := hi, f := lo &&& 0xF0#8, pc := s.pc + 1 })

/-- In every state that meets the invariant (memory canonical, F's low nibble zero), PUSH AF then POP AF both answer a next state, and A, F and SP are what they were, wherever SP points, if the two bytes below it are RAM of the Bus.
(46_control.md R167, R169, 95_test_vectors.md W4) -/
def Obligations.PushAfThenPopAfIsIdempotent : Prop :=
  ∀ s : State, s.Inv → s.kindAt (s.sp - 1) = .ram → s.kindAt (s.sp - 2) = .ram →
    ∃ t u, exec .push_AF s = .next t ∧ exec .pop_AF t = .next u ∧ u.a = s.a ∧ u.f = s.f ∧
      u.sp = s.sp ∧ u.pc = s.pc + 2

/-- In every state with canonical memory whose two bytes below SP are RAM of the Bus, and for every target, CALL then RET both answer a next state, PC is the address after the call and SP is what it was, also where SP wraps.
(46_control.md R161, R163, 20_memory.md R47) -/
def Obligations.CallThenRetReturns : Prop :=
  ∀ (s : State) (a16 : Word), Memory.wf s.mem → s.kindAt (s.sp - 1) = .ram → s.kindAt (s.sp - 2) = .ram →
    ∃ t u, exec (.call a16) s = .next t ∧ exec .ret t = .next u ∧ u.pc = s.pc + 3 ∧ u.sp = s.sp

/-- DAA leaves A the low 8 bits of the adjusted number, Z of it, N unchanged, H = 0, C set when the add case added 0x60 and unchanged in the subtract case; PC advances by 1 and nothing else changes, for all A and all flags.
(R175) -/
def Obligations.DecimalAdjust : Prop :=
  ∀ (w1 w2 : Byte) (s : State),
    let r := daaNumber s.a.toNat s.flagN s.flagH s.flagC
    decodeWindow 0x27 w1 w2 = .daa ∧ exec .daa s = .next { s with
      a := BitVec.ofInt 8 r.1
      f := packFlags (r.1 % 256 == 0) s.flagN false r.2 s.f
      pc := s.pc + 1 }

/-- For all x, y < 100 held as BCD in A and the d8 operand, ADD then DAA leaves A the BCD of (x + y) mod 100 and C = 1 exactly when x + y >= 100; SUB then DAA leaves A the BCD of (x - y) mod 100 and C = 1 exactly when x < y.
(47_misc.md R175, 42_alu8.md R124, R126) -/
def Obligations.DaaMakesDecimalSumsAndDifferences : Prop :=
  ∀ (s : State) (x y : Nat), x < 100 → y < 100 → s.a = bcd x →
    (∃ t u, exec (.add_A_d8 (bcd y)) s = .next t ∧ exec .daa t = .next u ∧
      u.a = bcd ((x + y) % 100) ∧ u.flagC = decide (100 ≤ x + y)) ∧
    (∃ t u, exec (.sub_d8 (bcd y)) s = .next t ∧ exec .daa t = .next u ∧
      u.a = bcd ((x + 100 - y) % 100) ∧ u.flagC = decide (x < y))

/-- CPL complements A with Z and C unchanged and N = H = 1; SCF sets C with Z unchanged and N = H = 0; CCF complements C with Z unchanged and N = H = 0; PC advances by 1 and nothing else changes.
(R176, R177, R178) -/
def Obligations.ComplementAndCarryFlagInstructions : Prop :=
  ∀ (w1 w2 : Byte) (s : State),
    (decodeWindow 0x2F w1 w2 = .cpl ∧ exec .cpl s =
      .next { s with a := BitVec.ofNat 8 (255 - s.a.toNat), f := packFlags s.flagZ true true s.flagC s.f, pc := s.pc + 1 }) ∧
    (decodeWindow 0x37 w1 w2 = .scf ∧ exec .scf s =
      .next { s with f := packFlags s.flagZ false false true s.f, pc := s.pc + 1 }) ∧
    (decodeWindow 0x3F w1 w2 = .ccf ∧ exec .ccf s =
      .next { s with f := packFlags s.flagZ false false (!s.flagC) s.f, pc := s.pc + 1 })

/-- For every byte b, the window 0xCB, b decodes to the CB instruction of b with size 2, and the row of the prefix (constructor prefix_CB) with second byte b has in every state exactly the effect of that CB instruction.
(R179) -/
def Obligations.PrefixIsTheCbInstruction : Prop :=
  ∀ (b w2 : Byte) (s : State), decodeWindow 0xCB b w2 = decodeCb b ∧ (decodeCb b).size = 2 ∧
    exec (.prefix_CB b) s = exec (decodeCb b) s ∧ ∃ t, exec (.prefix_CB b) s = .next t

/-- Writing four flags makes F the sum of their weights plus the low nibble it had, and reading each flag then gives the value written; in a state whose low nibble is zero F is exactly that sum. That a flag write keeps the low nibble is the model's reading of R16 (log 15).
(10_state.md R20, 00_scope.md R16) -/
def Obligations.FlagsByteIsItsFourFlags : Prop :=
  ∀ (s : State) (z n h c : Bool),
    let t := s.setFlags z n h c
    t.f.toNat = z.toNat * 0x80 + n.toNat * 0x40 + h.toNat * 0x20 + c.toNat * 0x10 + s.f.toNat % 16 ∧
    t.flag .Z = z ∧ t.flag .N = n ∧ t.flag .H = h ∧ t.flag .C = c ∧
    (s.f &&& 0x0F#8 = 0#8 → s.f.toNat = s.flagZ.toNat * 0x80 + s.flagN.toNat * 0x40 + s.flagH.toNat * 0x20 + s.flagC.toNat * 0x10)

/-- For every word x, writing BC, DE or HL and reading it back gives x with the two cells x[15:8] and x[7:0]; writing AF and reading it back gives x & 0xFFF0.
(R24) -/
def Obligations.PairRoundTrip : Prop :=
  ∀ (s : State) (x : Word),
    ((s.set16 .BC x).get16 .BC = x ∧ (s.set16 .BC x).b.toNat = x.toNat / 256 ∧ (s.set16 .BC x).c.toNat = x.toNat % 256) ∧
    ((s.set16 .DE x).get16 .DE = x ∧ (s.set16 .DE x).d.toNat = x.toNat / 256 ∧ (s.set16 .DE x).e.toNat = x.toNat % 256) ∧
    ((s.set16 .HL x).get16 .HL = x ∧ (s.set16 .HL x).h.toNat = x.toNat / 256 ∧ (s.set16 .HL x).l.toNat = x.toNat % 256) ∧
    (s.set16 .AF x).get16 .AF = x &&& 0xFFF0#16

/-- Whatever the Bus, a 16-bit read is the byte read at a and then the byte read at a + 1 modulo 65536, low byte first, and a 16-bit write writes the low byte at a and then the high byte at a + 1; where both are RAM of the Bus, in canonical memory, after a word is written at a, the word read at a is it, the byte at a is its low byte, the byte at a + 1 modulo 65536 is its high byte, and every other byte is as before; and the word read at a is the little-endian composite of any two bytes written separately at a and a + 1.
(R46) -/
def Obligations.WordAccessIsTwoByteAccesses : Prop :=
  (∀ (s : State) (a v : Word),
    s.read16 a = (join ((s.afterRead a).read (a + 1)) (s.read a), (s.afterRead a).afterRead (a + 1)) ∧
    s.write16 a v = (s.write a (loByte v)).write (a + 1) (hiByte v)) ∧
  ∀ (s : State) (a v : Word) (lo hi : Byte), Memory.wf s.mem → s.kindAt a = .ram → s.kindAt (a + 1) = .ram →
    ((s.write16 a v).read16 a).1 = v ∧ (s.write16 a v).read a = loByte v ∧ (s.write16 a v).read (a + 1) = hiByte v ∧
    (∀ b, b ≠ a → b ≠ a + 1 → (s.write16 a v).read b = s.read b) ∧
    (((s.write a lo).write (a + 1) hi).read16 a).1 = join hi lo

/-- Memory's list form is canonical: if two lists meet the form and every address of the 16-bit space reads the same from both, they are equal.
(20_memory.md R42, R44) -/
def Obligations.CanonicalMemoriesWithEqualBytesAreEqual : Prop :=
  ∀ m m' : List Host.Cell, Memory.wf m → Memory.wf m' → (∀ a : Word, readCells m a.toNat = readCells m' a.toNat) → m = m'

/-- For every instruction, by its bytes, and every state that meets the invariant: at every address that is not among the instruction's store addresses (HL, BC, DE, a16, a16+1, the high page, SP-1 and SP-2, by form; none for a form that stores nothing), and that no answer a device of the Bus has yet to give changes (none under the default Bus), the store holds after it the byte it held before; and where no device answers, the address reads after it as before.
(20_memory.md R44, R49, R57, 46_control.md R154) -/
def Obligations.StoresGoOnlyWhereTheInstructionSays : Prop :=
  ∀ (w0 w1 w2 : Byte) (s t : State), s.Inv → exec (decodeWindow w0 w1 w2) s = .next t →
    ∀ a : Word, a ∉ storeAddrs w0 w1 w2 s → ¬s.busStores a →
      t.peek a = s.peek a ∧ (s.kindAt a ≠ .device → t.read a = s.read a)

/-- For every instruction, by its bytes, and every state: each 8-bit register that R28 does not list the instruction as writing is unchanged, and SP is unchanged unless the instruction is one R28 lists for SP.
(10_state.md R28) -/
def Obligations.RegistersWrittenAreThoseOfTheTable : Prop :=
  ∀ (w0 w1 w2 : Byte) (s t : State), exec (decodeWindow w0 w1 w2) s = .next t →
    (∀ r : Reg8, r ∉ regsWritten w0 w1 → t.get8 (.reg r) = s.get8 (.reg r)) ∧ (spWritten w0 = false → t.sp = s.sp)

/-- For every instruction, by its bytes, and every state: each flag that the table marks 0 or 1 has that value after, each flag it marks unchanged is as before, and the low nibble of F is as before except after POP AF, which clears it. That every other instruction keeps the low nibble is the model's reading of R16 (log 15).
(47_misc.md R181, 00_scope.md R16, 46_control.md R169) -/
def Obligations.FlagsFollowTheSummaryTable : Prop :=
  ∀ (w0 w1 w2 : Byte) (s t : State), exec (decodeWindow w0 w1 w2) s = .next t →
    (flagRow w0 w1).allows s t ∧ t.f &&& 0x0F#8 = if w0 = 0xF1#8 then 0#8 else s.f &&& 0x0F#8

/-- For every instruction, by its bytes, and every state: IME is unchanged except by DI and RETI, ei_pending except by DI and EI, mode except by HALT and STOP, the fault cell except by HALT and the eleven unused bytes; the inputs, the acknowledgements and the Bus's address map are unchanged by every instruction. That last clause rests on the model's form of the per-step input (log 4), of the acknowledgements, which only acceptance gives (R187, R192; log 5), and of the Bus, whose address map never changes (log 23).
(10_state.md R35, R36, R37, R38, 60_exceptions.md R183, R187, R192) -/
def Obligations.ControlCellsChangeOnlyByTheirInstructions : Prop :=
  ∀ (w0 w1 w2 : Byte) (s t : State), exec (decodeWindow w0 w1 w2) s = .next t →
    (w0 ≠ 0xF3#8 → w0 ≠ 0xD9#8 → t.ime = s.ime) ∧ (w0 ≠ 0xF3#8 → w0 ≠ 0xFB#8 → t.eiPending = s.eiPending) ∧
    (w0 ≠ 0x76#8 → w0 ≠ 0x10#8 → t.mode = s.mode) ∧ (w0 ≠ 0x76#8 → w0 ∉ unusedBytes → t.fault = s.fault) ∧
    t.irqInputs = s.irqInputs ∧ t.acks = s.acks ∧ t.bus.regions = s.bus.regions

/-- For every instruction, by its bytes, that is not a control transfer, and every state: after it PC is PC + size modulo 65536, unless the instruction recorded a fault, and then PC is unchanged.
(10_state.md R31, 30_encoding.md R76, 60_exceptions.md R186, 47_misc.md R171, R180) -/
def Obligations.PcAdvancesByTheLength : Prop :=
  ∀ (w0 w1 w2 : Byte) (s t : State), exec (decodeWindow w0 w1 w2) s = .next t → w0 ∉ controlOps →
    t.pc = (if w0 ∈ unusedBytes ∨ (w0 = 0x76#8 ∧ s.ime = false ∧ s.irqPending ≠ none) then s.pc
      else BitVec.ofNat 16 (s.pc.toNat + (decodeWindow w0 w1 w2).size))

/-- For every running state with no fault and IME = 0 whose instruction at PC is not HALT, and any two sequences of IrqPending answers: the two steps answer next states that differ in the sequence of inputs alone. Each step uses up one input, a step that records a fault none (log 4, 9); HALT and the halted mode are the subject of HaltSetsModeOrIsRefused and HaltedCoreHoldsUntilAnInterrupt.
(10_state.md R35, 60_exceptions.md R191, 47_misc.md R171) -/
def Obligations.MaskedInterruptsAreNotSeen : Prop :=
  ∀ (s : State) (q : List (Option IrqLine)), s.fault = none → s.mode = .running → s.ime = false → s.fetch.1 ≠ .halt →
    ∃ t, step s = .next t ∧ step { s with irqInputs := q } =
      .next { t with irqInputs := match t.fault with | none => q.tail | some _ => q }
end

