-- ==== Sys2Proof/Laws/State.lean ====
section
/-! SUPPORT. For each update operation and each field it leaves alone, that the field is as it was; and what it writes. -/

namespace Sys2Proof.Laws

open Sys2Proof.Machine

/-- What a read gets depends on the `Bus` and the store alone. -/
theorem read_congr {s t : State} (hb : t.bus = s.bus) (hm : t.mem = s.mem) (a : Word) : t.read a = s.read a := by
  simp only [State.read, hb, hm]

/-- What the store holds depends on the store alone. -/
theorem peek_congr {s t : State} (hm : t.mem = s.mem) (a : Word) : t.peek a = s.peek a := by
  simp only [State.peek, hm]

/-! ### A byte of memory read or written through the Bus -/

@[simp] theorem access_a (s : State) (x : BusAccess) : (s.access x).a = s.a := rfl
@[simp] theorem access_f (s : State) (x : BusAccess) : (s.access x).f = s.f := rfl
@[simp] theorem access_b (s : State) (x : BusAccess) : (s.access x).b = s.b := rfl
@[simp] theorem access_c (s : State) (x : BusAccess) : (s.access x).c = s.c := rfl
@[simp] theorem access_d (s : State) (x : BusAccess) : (s.access x).d = s.d := rfl
@[simp] theorem access_e (s : State) (x : BusAccess) : (s.access x).e = s.e := rfl
@[simp] theorem access_h (s : State) (x : BusAccess) : (s.access x).h = s.h := rfl
@[simp] theorem access_l (s : State) (x : BusAccess) : (s.access x).l = s.l := rfl
@[simp] theorem access_sp (s : State) (x : BusAccess) : (s.access x).sp = s.sp := rfl
@[simp] theorem access_pc (s : State) (x : BusAccess) : (s.access x).pc = s.pc := rfl
@[simp] theorem access_ime (s : State) (x : BusAccess) : (s.access x).ime = s.ime := rfl
@[simp] theorem access_eiPending (s : State) (x : BusAccess) : (s.access x).eiPending = s.eiPending := rfl
@[simp] theorem access_mode (s : State) (x : BusAccess) : (s.access x).mode = s.mode := rfl
@[simp] theorem access_fault (s : State) (x : BusAccess) : (s.access x).fault = s.fault := rfl
@[simp] theorem access_irqInputs (s : State) (x : BusAccess) : (s.access x).irqInputs = s.irqInputs := rfl
@[simp] theorem access_acks (s : State) (x : BusAccess) : (s.access x).acks = s.acks := rfl

@[simp] theorem access_mem (s : State) (x : BusAccess) : (s.access x).mem = storeAfter s.bus s.mem x := rfl
@[simp] theorem access_bus (s : State) (x : BusAccess) : (s.access x).bus = busAfter s.bus x := rfl
@[simp] theorem access_busLog (s : State) (x : BusAccess) : (s.access x).busLog = busLogAfter s.bus s.busLog x := rfl
@[simp] theorem access_reg8 (s : State) (x : BusAccess) (r : Reg8) : (s.access x).reg8 r = s.reg8 r := by cases r <;> rfl
@[simp] theorem access_get16 (s : State) (x : BusAccess) (r : Reg16) : (s.access x).get16 r = s.get16 r := by cases r <;> rfl

@[simp] theorem afterRead_a (s : State) (p : Word) : (s.afterRead p).a = s.a := rfl
@[simp] theorem afterRead_f (s : State) (p : Word) : (s.afterRead p).f = s.f := rfl
@[simp] theorem afterRead_b (s : State) (p : Word) : (s.afterRead p).b = s.b := rfl
@[simp] theorem afterRead_c (s : State) (p : Word) : (s.afterRead p).c = s.c := rfl
@[simp] theorem afterRead_d (s : State) (p : Word) : (s.afterRead p).d = s.d := rfl
@[simp] theorem afterRead_e (s : State) (p : Word) : (s.afterRead p).e = s.e := rfl
@[simp] theorem afterRead_h (s : State) (p : Word) : (s.afterRead p).h = s.h := rfl
@[simp] theorem afterRead_l (s : State) (p : Word) : (s.afterRead p).l = s.l := rfl
@[simp] theorem afterRead_sp (s : State) (p : Word) : (s.afterRead p).sp = s.sp := rfl
@[simp] theorem afterRead_pc (s : State) (p : Word) : (s.afterRead p).pc = s.pc := rfl
@[simp] theorem afterRead_ime (s : State) (p : Word) : (s.afterRead p).ime = s.ime := rfl
@[simp] theorem afterRead_eiPending (s : State) (p : Word) : (s.afterRead p).eiPending = s.eiPending := rfl
@[simp] theorem afterRead_mode (s : State) (p : Word) : (s.afterRead p).mode = s.mode := rfl
@[simp] theorem afterRead_fault (s : State) (p : Word) : (s.afterRead p).fault = s.fault := rfl
@[simp] theorem afterRead_irqInputs (s : State) (p : Word) : (s.afterRead p).irqInputs = s.irqInputs := rfl
@[simp] theorem afterRead_acks (s : State) (p : Word) : (s.afterRead p).acks = s.acks := rfl

@[simp] theorem afterRead_mem (s : State) (p : Word) : (s.afterRead p).mem = storeAfter s.bus s.mem (.read p) := rfl
@[simp] theorem afterRead_bus (s : State) (p : Word) : (s.afterRead p).bus = busAfter s.bus (.read p) := rfl
@[simp] theorem afterRead_busLog (s : State) (p : Word) : (s.afterRead p).busLog = busLogAfter s.bus s.busLog (.read p) := rfl
@[simp] theorem afterRead_reg8 (s : State) (p : Word) (r : Reg8) : (s.afterRead p).reg8 r = s.reg8 r := by cases r <;> rfl
@[simp] theorem afterRead_get16 (s : State) (p : Word) (r : Reg16) : (s.afterRead p).get16 r = s.get16 r := by cases r <;> rfl

@[simp] theorem write_a (s : State) (p : Word) (v : Byte) : (s.write p v).a = s.a := rfl
@[simp] theorem write_f (s : State) (p : Word) (v : Byte) : (s.write p v).f = s.f := rfl
@[simp] theorem write_b (s : State) (p : Word) (v : Byte) : (s.write p v).b = s.b := rfl
@[simp] theorem write_c (s : State) (p : Word) (v : Byte) : (s.write p v).c = s.c := rfl
@[simp] theorem write_d (s : State) (p : Word) (v : Byte) : (s.write p v).d = s.d := rfl
@[simp] theorem write_e (s : State) (p : Word) (v : Byte) : (s.write p v).e = s.e := rfl
@[simp] theorem write_h (s : State) (p : Word) (v : Byte) : (s.write p v).h = s.h := rfl
@[simp] theorem write_l (s : State) (p : Word) (v : Byte) : (s.write p v).l = s.l := rfl
@[simp] theorem write_sp (s : State) (p : Word) (v : Byte) : (s.write p v).sp = s.sp := rfl
@[simp] theorem write_pc (s : State) (p : Word) (v : Byte) : (s.write p v).pc = s.pc := rfl
@[simp] theorem write_ime (s : State) (p : Word) (v : Byte) : (s.write p v).ime = s.ime := rfl
@[simp] theorem write_eiPending (s : State) (p : Word) (v : Byte) : (s.write p v).eiPending = s.eiPending := rfl
@[simp] theorem write_mode (s : State) (p : Word) (v : Byte) : (s.write p v).mode = s.mode := rfl
@[simp] theorem write_fault (s : State) (p : Word) (v : Byte) : (s.write p v).fault = s.fault := rfl
@[simp] theorem write_irqInputs (s : State) (p : Word) (v : Byte) : (s.write p v).irqInputs = s.irqInputs := rfl
@[simp] theorem write_acks (s : State) (p : Word) (v : Byte) : (s.write p v).acks = s.acks := rfl

@[simp] theorem write_mem (s : State) (p : Word) (v : Byte) : (s.write p v).mem = storeAfter s.bus s.mem (.write p v) := rfl
@[simp] theorem write_bus (s : State) (p : Word) (v : Byte) : (s.write p v).bus = busAfter s.bus (.write p v) := rfl
@[simp] theorem write_busLog (s : State) (p : Word) (v : Byte) : (s.write p v).busLog = busLogAfter s.bus s.busLog (.write p v) := rfl
@[simp] theorem write_reg8 (s : State) (p : Word) (v : Byte) (r : Reg8) : (s.write p v).reg8 r = s.reg8 r := by cases r <;> rfl
@[simp] theorem write_get16 (s : State) (p : Word) (v : Byte) (r : Reg16) : (s.write p v).get16 r = s.get16 r := by cases r <;> rfl

/-! ### A byte put into the store -/

@[simp] theorem poke_a (s : State) (p : Word) (v : Byte) : (s.poke p v).a = s.a := rfl
@[simp] theorem poke_f (s : State) (p : Word) (v : Byte) : (s.poke p v).f = s.f := rfl
@[simp] theorem poke_b (s : State) (p : Word) (v : Byte) : (s.poke p v).b = s.b := rfl
@[simp] theorem poke_c (s : State) (p : Word) (v : Byte) : (s.poke p v).c = s.c := rfl
@[simp] theorem poke_d (s : State) (p : Word) (v : Byte) : (s.poke p v).d = s.d := rfl
@[simp] theorem poke_e (s : State) (p : Word) (v : Byte) : (s.poke p v).e = s.e := rfl
@[simp] theorem poke_h (s : State) (p : Word) (v : Byte) : (s.poke p v).h = s.h := rfl
@[simp] theorem poke_l (s : State) (p : Word) (v : Byte) : (s.poke p v).l = s.l := rfl
@[simp] theorem poke_sp (s : State) (p : Word) (v : Byte) : (s.poke p v).sp = s.sp := rfl
@[simp] theorem poke_pc (s : State) (p : Word) (v : Byte) : (s.poke p v).pc = s.pc := rfl
@[simp] theorem poke_ime (s : State) (p : Word) (v : Byte) : (s.poke p v).ime = s.ime := rfl
@[simp] theorem poke_eiPending (s : State) (p : Word) (v : Byte) : (s.poke p v).eiPending = s.eiPending := rfl
@[simp] theorem poke_mode (s : State) (p : Word) (v : Byte) : (s.poke p v).mode = s.mode := rfl
@[simp] theorem poke_fault (s : State) (p : Word) (v : Byte) : (s.poke p v).fault = s.fault := rfl
@[simp] theorem poke_bus (s : State) (p : Word) (v : Byte) : (s.poke p v).bus = s.bus := rfl
@[simp] theorem poke_busLog (s : State) (p : Word) (v : Byte) : (s.poke p v).busLog = s.busLog := rfl
@[simp] theorem poke_irqInputs (s : State) (p : Word) (v : Byte) : (s.poke p v).irqInputs = s.irqInputs := rfl
@[simp] theorem poke_acks (s : State) (p : Word) (v : Byte) : (s.poke p v).acks = s.acks := rfl

@[simp] theorem poke_mem (s : State) (p : Word) (v : Byte) : (s.poke p v).mem = writeCells s.mem p.toNat v := rfl

/-! ### An 8-bit register written -/

@[simp] theorem set8_f (s : State) (r : Reg8) (v : Byte) : (s.set8 r v).f = s.f := by cases r <;> rfl
@[simp] theorem set8_sp (s : State) (r : Reg8) (v : Byte) : (s.set8 r v).sp = s.sp := by cases r <;> rfl
@[simp] theorem set8_pc (s : State) (r : Reg8) (v : Byte) : (s.set8 r v).pc = s.pc := by cases r <;> rfl
@[simp] theorem set8_ime (s : State) (r : Reg8) (v : Byte) : (s.set8 r v).ime = s.ime := by cases r <;> rfl
@[simp] theorem set8_eiPending (s : State) (r : Reg8) (v : Byte) : (s.set8 r v).eiPending = s.eiPending := by cases r <;> rfl
@[simp] theorem set8_mode (s : State) (r : Reg8) (v : Byte) : (s.set8 r v).mode = s.mode := by cases r <;> rfl
@[simp] theorem set8_fault (s : State) (r : Reg8) (v : Byte) : (s.set8 r v).fault = s.fault := by cases r <;> rfl
@[simp] theorem set8_mem (s : State) (r : Reg8) (v : Byte) : (s.set8 r v).mem = s.mem := by cases r <;> rfl
@[simp] theorem set8_bus (s : State) (r : Reg8) (v : Byte) : (s.set8 r v).bus = s.bus := by cases r <;> rfl
@[simp] theorem set8_busLog (s : State) (r : Reg8) (v : Byte) : (s.set8 r v).busLog = s.busLog := by cases r <;> rfl
@[simp] theorem set8_irqInputs (s : State) (r : Reg8) (v : Byte) : (s.set8 r v).irqInputs = s.irqInputs := by cases r <;> rfl
@[simp] theorem set8_acks (s : State) (r : Reg8) (v : Byte) : (s.set8 r v).acks = s.acks := by cases r <;> rfl

theorem reg8_set8 (s : State) (r q : Reg8) (v : Byte) : (s.set8 r v).reg8 q = if q = r then v else s.reg8 q := by
  cases r <;> cases q <;> rfl

@[simp] theorem get8_reg (s : State) (r : Reg8) : s.get8 (.reg r) = s.reg8 r := rfl

@[simp] theorem get8_F (s : State) : s.get8 .F = s.f := rfl

/-- `set8` changes the named cell and no other 8-bit name reads differently (10_state.md R25). -/
theorem get8_set8 (s : State) (r : Reg8) (n : Name8) (v : Byte) : (s.set8 r v).get8 n = if n = .reg r then v else s.get8 n := by
  cases n with
  | reg q => simp only [get8_reg, reg8_set8, Name8.reg.injEq]
  | F => exact (set8_f s r v).trans (if_neg Name8.noConfusion).symm

@[simp] theorem reg8_set8_same (s : State) (r : Reg8) (v : Byte) : (s.set8 r v).reg8 r = v := by cases r <;> rfl

/-! ### A 16-bit register or pair written -/

@[simp] theorem set16_ime (s : State) (p : Reg16) (v : Word) : (s.set16 p v).ime = s.ime := by cases p <;> rfl
@[simp] theorem set16_eiPending (s : State) (p : Reg16) (v : Word) : (s.set16 p v).eiPending = s.eiPending := by cases p <;> rfl
@[simp] theorem set16_mode (s : State) (p : Reg16) (v : Word) : (s.set16 p v).mode = s.mode := by cases p <;> rfl
@[simp] theorem set16_fault (s : State) (p : Reg16) (v : Word) : (s.set16 p v).fault = s.fault := by cases p <;> rfl
@[simp] theorem set16_mem (s : State) (p : Reg16) (v : Word) : (s.set16 p v).mem = s.mem := by cases p <;> rfl
@[simp] theorem set16_bus (s : State) (p : Reg16) (v : Word) : (s.set16 p v).bus = s.bus := by cases p <;> rfl
@[simp] theorem set16_busLog (s : State) (p : Reg16) (v : Word) : (s.set16 p v).busLog = s.busLog := by cases p <;> rfl
@[simp] theorem set16_irqInputs (s : State) (p : Reg16) (v : Word) : (s.set16 p v).irqInputs = s.irqInputs := by cases p <;> rfl
@[simp] theorem set16_acks (s : State) (p : Reg16) (v : Word) : (s.set16 p v).acks = s.acks := by cases p <;> rfl

/-! ### Flags written -/

@[simp] theorem setFlags_a (s : State) (z n h c : Bool) : (s.setFlags z n h c).a = s.a := rfl
@[simp] theorem setFlags_b (s : State) (z n h c : Bool) : (s.setFlags z n h c).b = s.b := rfl
@[simp] theorem setFlags_c (s : State) (z n h c : Bool) : (s.setFlags z n h c).c = s.c := rfl
@[simp] theorem setFlags_d (s : State) (z n h c : Bool) : (s.setFlags z n h c).d = s.d := rfl
@[simp] theorem setFlags_e (s : State) (z n h c : Bool) : (s.setFlags z n h c).e = s.e := rfl
@[simp] theorem setFlags_h (s : State) (z n h c : Bool) : (s.setFlags z n h c).h = s.h := rfl
@[simp] theorem setFlags_l (s : State) (z n h c : Bool) : (s.setFlags z n h c).l = s.l := rfl
@[simp] theorem setFlags_sp (s : State) (z n h c : Bool) : (s.setFlags z n h c).sp = s.sp := rfl
@[simp] theorem setFlags_pc (s : State) (z n h c : Bool) : (s.setFlags z n h c).pc = s.pc := rfl
@[simp] theorem setFlags_ime (s : State) (z n h c : Bool) : (s.setFlags z n h c).ime = s.ime := rfl
@[simp] theorem setFlags_eiPending (s : State) (z n h c : Bool) : (s.setFlags z n h c).eiPending = s.eiPending := rfl
@[simp] theorem setFlags_mode (s : State) (z n h c : Bool) : (s.setFlags z n h c).mode = s.mode := rfl
@[simp] theorem setFlags_fault (s : State) (z n h c : Bool) : (s.setFlags z n h c).fault = s.fault := rfl
@[simp] theorem setFlags_mem (s : State) (z n h c : Bool) : (s.setFlags z n h c).mem = s.mem := rfl
@[simp] theorem setFlags_bus (s : State) (z n h c : Bool) : (s.setFlags z n h c).bus = s.bus := rfl
@[simp] theorem setFlags_busLog (s : State) (z n h c : Bool) : (s.setFlags z n h c).busLog = s.busLog := rfl
@[simp] theorem setFlags_irqInputs (s : State) (z n h c : Bool) : (s.setFlags z n h c).irqInputs = s.irqInputs := rfl
@[simp] theorem setFlags_acks (s : State) (z n h c : Bool) : (s.setFlags z n h c).acks = s.acks := rfl

@[simp] theorem setFlags_f (s : State) (z n h c : Bool) : (s.setFlags z n h c).f = packFlags z n h c s.f := rfl

@[simp] theorem setFlags_reg8 (s : State) (z n h c : Bool) (r : Reg8) : (s.setFlags z n h c).reg8 r = s.reg8 r := by cases r <;> rfl

/-! ### PC: advance -/

@[simp] theorem advance_a (s : State) (n : Word) : (s.advance n).a = s.a := rfl
@[simp] theorem advance_f (s : State) (n : Word) : (s.advance n).f = s.f := rfl
@[simp] theorem advance_b (s : State) (n : Word) : (s.advance n).b = s.b := rfl
@[simp] theorem advance_c (s : State) (n : Word) : (s.advance n).c = s.c := rfl
@[simp] theorem advance_d (s : State) (n : Word) : (s.advance n).d = s.d := rfl
@[simp] theorem advance_e (s : State) (n : Word) : (s.advance n).e = s.e := rfl
@[simp] theorem advance_h (s : State) (n : Word) : (s.advance n).h = s.h := rfl
@[simp] theorem advance_l (s : State) (n : Word) : (s.advance n).l = s.l := rfl
@[simp] theorem advance_sp (s : State) (n : Word) : (s.advance n).sp = s.sp := rfl
@[simp] theorem advance_ime (s : State) (n : Word) : (s.advance n).ime = s.ime := rfl
@[simp] theorem advance_eiPending (s : State) (n : Word) : (s.advance n).eiPending = s.eiPending := rfl
@[simp] theorem advance_mode (s : State) (n : Word) : (s.advance n).mode = s.mode := rfl
@[simp] theorem advance_fault (s : State) (n : Word) : (s.advance n).fault = s.fault := rfl
@[simp] theorem advance_mem (s : State) (n : Word) : (s.advance n).mem = s.mem := rfl
@[simp] theorem advance_bus (s : State) (n : Word) : (s.advance n).bus = s.bus := rfl
@[simp] theorem advance_busLog (s : State) (n : Word) : (s.advance n).busLog = s.busLog := rfl
@[simp] theorem advance_irqInputs (s : State) (n : Word) : (s.advance n).irqInputs = s.irqInputs := rfl
@[simp] theorem advance_acks (s : State) (n : Word) : (s.advance n).acks = s.acks := rfl

@[simp] theorem advance_reg8 (s : State) (n : Word) (r : Reg8) : (s.advance n).reg8 r = s.reg8 r := by cases r <;> rfl

/-! ### PC: jumpTo -/

@[simp] theorem jumpTo_a (s : State) (n : Word) : (s.jumpTo n).a = s.a := rfl
@[simp] theorem jumpTo_f (s : State) (n : Word) : (s.jumpTo n).f = s.f := rfl
@[simp] theorem jumpTo_b (s : State) (n : Word) : (s.jumpTo n).b = s.b := rfl
@[simp] theorem jumpTo_c (s : State) (n : Word) : (s.jumpTo n).c = s.c := rfl
@[simp] theorem jumpTo_d (s : State) (n : Word) : (s.jumpTo n).d = s.d := rfl
@[simp] theorem jumpTo_e (s : State) (n : Word) : (s.jumpTo n).e = s.e := rfl
@[simp] theorem jumpTo_h (s : State) (n : Word) : (s.jumpTo n).h = s.h := rfl
@[simp] theorem jumpTo_l (s : State) (n : Word) : (s.jumpTo n).l = s.l := rfl
@[simp] theorem jumpTo_sp (s : State) (n : Word) : (s.jumpTo n).sp = s.sp := rfl
@[simp] theorem jumpTo_ime (s : State) (n : Word) : (s.jumpTo n).ime = s.ime := rfl
@[simp] theorem jumpTo_eiPending (s : State) (n : Word) : (s.jumpTo n).eiPending = s.eiPending := rfl
@[simp] theorem jumpTo_mode (s : State) (n : Word) : (s.jumpTo n).mode = s.mode := rfl
@[simp] theorem jumpTo_fault (s : State) (n : Word) : (s.jumpTo n).fault = s.fault := rfl
@[simp] theorem jumpTo_mem (s : State) (n : Word) : (s.jumpTo n).mem = s.mem := rfl
@[simp] theorem jumpTo_bus (s : State) (n : Word) : (s.jumpTo n).bus = s.bus := rfl
@[simp] theorem jumpTo_busLog (s : State) (n : Word) : (s.jumpTo n).busLog = s.busLog := rfl
@[simp] theorem jumpTo_irqInputs (s : State) (n : Word) : (s.jumpTo n).irqInputs = s.irqInputs := rfl
@[simp] theorem jumpTo_acks (s : State) (n : Word) : (s.jumpTo n).acks = s.acks := rfl

@[simp] theorem jumpTo_reg8 (s : State) (n : Word) (r : Reg8) : (s.jumpTo n).reg8 r = s.reg8 r := by cases r <;> rfl

@[simp] theorem advance_pc (s : State) (n : Word) : (s.advance n).pc = s.pc + n := rfl

@[simp] theorem jumpTo_pc (s : State) (t : Word) : (s.jumpTo t).pc = t := rfl

/-! ### SP written -/

@[simp] theorem setSP_a (s : State) (v : Word) : (s.set16 .SP v).a = s.a := rfl
@[simp] theorem setSP_f (s : State) (v : Word) : (s.set16 .SP v).f = s.f := rfl
@[simp] theorem setSP_b (s : State) (v : Word) : (s.set16 .SP v).b = s.b := rfl
@[simp] theorem setSP_c (s : State) (v : Word) : (s.set16 .SP v).c = s.c := rfl
@[simp] theorem setSP_d (s : State) (v : Word) : (s.set16 .SP v).d = s.d := rfl
@[simp] theorem setSP_e (s : State) (v : Word) : (s.set16 .SP v).e = s.e := rfl
@[simp] theorem setSP_h (s : State) (v : Word) : (s.set16 .SP v).h = s.h := rfl
@[simp] theorem setSP_l (s : State) (v : Word) : (s.set16 .SP v).l = s.l := rfl
@[simp] theorem setSP_pc (s : State) (v : Word) : (s.set16 .SP v).pc = s.pc := rfl
@[simp] theorem setSP_ime (s : State) (v : Word) : (s.set16 .SP v).ime = s.ime := rfl
@[simp] theorem setSP_eiPending (s : State) (v : Word) : (s.set16 .SP v).eiPending = s.eiPending := rfl
@[simp] theorem setSP_mode (s : State) (v : Word) : (s.set16 .SP v).mode = s.mode := rfl
@[simp] theorem setSP_fault (s : State) (v : Word) : (s.set16 .SP v).fault = s.fault := rfl
@[simp] theorem setSP_mem (s : State) (v : Word) : (s.set16 .SP v).mem = s.mem := rfl
@[simp] theorem setSP_bus (s : State) (v : Word) : (s.set16 .SP v).bus = s.bus := rfl
@[simp] theorem setSP_busLog (s : State) (v : Word) : (s.set16 .SP v).busLog = s.busLog := rfl
@[simp] theorem setSP_irqInputs (s : State) (v : Word) : (s.set16 .SP v).irqInputs = s.irqInputs := rfl
@[simp] theorem setSP_acks (s : State) (v : Word) : (s.set16 .SP v).acks = s.acks := rfl

@[simp] theorem setSP_sp (s : State) (v : Word) : (s.set16 .SP v).sp = v := rfl

/-! ### Pushes -/

@[simp] theorem pushByte_a (s : State) (v : Byte) : (s.pushByte v).a = s.a := by simp only [State.pushByte, write_a, setSP_a]
@[simp] theorem pushByte_f (s : State) (v : Byte) : (s.pushByte v).f = s.f := by simp only [State.pushByte, write_f, setSP_f]
@[simp] theorem pushByte_b (s : State) (v : Byte) : (s.pushByte v).b = s.b := by simp only [State.pushByte, write_b, setSP_b]
@[simp] theorem pushByte_c (s : State) (v : Byte) : (s.pushByte v).c = s.c := by simp only [State.pushByte, write_c, setSP_c]
@[simp] theorem pushByte_d (s : State) (v : Byte) : (s.pushByte v).d = s.d := by simp only [State.pushByte, write_d, setSP_d]
@[simp] theorem pushByte_e (s : State) (v : Byte) : (s.pushByte v).e = s.e := by simp only [State.pushByte, write_e, setSP_e]
@[simp] theorem pushByte_h (s : State) (v : Byte) : (s.pushByte v).h = s.h := by simp only [State.pushByte, write_h, setSP_h]
@[simp] theorem pushByte_l (s : State) (v : Byte) : (s.pushByte v).l = s.l := by simp only [State.pushByte, write_l, setSP_l]
@[simp] theorem pushByte_pc (s : State) (v : Byte) : (s.pushByte v).pc = s.pc := by simp only [State.pushByte, write_pc, setSP_pc]
@[simp] theorem pushByte_ime (s : State) (v : Byte) : (s.pushByte v).ime = s.ime := by simp only [State.pushByte, write_ime, setSP_ime]
@[simp] theorem pushByte_eiPending (s : State) (v : Byte) : (s.pushByte v).eiPending = s.eiPending := by simp only [State.pushByte, write_eiPending, setSP_eiPending]
@[simp] theorem pushByte_mode (s : State) (v : Byte) : (s.pushByte v).mode = s.mode := by simp only [State.pushByte, write_mode, setSP_mode]
@[simp] theorem pushByte_fault (s : State) (v : Byte) : (s.pushByte v).fault = s.fault := by simp only [State.pushByte, write_fault, setSP_fault]
@[simp] theorem pushByte_irqInputs (s : State) (v : Byte) : (s.pushByte v).irqInputs = s.irqInputs := by simp only [State.pushByte, write_irqInputs, setSP_irqInputs]
@[simp] theorem pushByte_acks (s : State) (v : Byte) : (s.pushByte v).acks = s.acks := by simp only [State.pushByte, write_acks, setSP_acks]

@[simp] theorem pushByte_sp (s : State) (v : Byte) : (s.pushByte v).sp = s.sp - 1 := rfl

@[simp] theorem push16_a (s : State) (v : Word) : (s.push16 v).a = s.a := by simp only [State.push16, pushByte_a]
@[simp] theorem push16_f (s : State) (v : Word) : (s.push16 v).f = s.f := by simp only [State.push16, pushByte_f]
@[simp] theorem push16_b (s : State) (v : Word) : (s.push16 v).b = s.b := by simp only [State.push16, pushByte_b]
@[simp] theorem push16_c (s : State) (v : Word) : (s.push16 v).c = s.c := by simp only [State.push16, pushByte_c]
@[simp] theorem push16_d (s : State) (v : Word) : (s.push16 v).d = s.d := by simp only [State.push16, pushByte_d]
@[simp] theorem push16_e (s : State) (v : Word) : (s.push16 v).e = s.e := by simp only [State.push16, pushByte_e]
@[simp] theorem push16_h (s : State) (v : Word) : (s.push16 v).h = s.h := by simp only [State.push16, pushByte_h]
@[simp] theorem push16_l (s : State) (v : Word) : (s.push16 v).l = s.l := by simp only [State.push16, pushByte_l]
@[simp] theorem push16_pc (s : State) (v : Word) : (s.push16 v).pc = s.pc := by simp only [State.push16, pushByte_pc]
@[simp] theorem push16_ime (s : State) (v : Word) : (s.push16 v).ime = s.ime := by simp only [State.push16, pushByte_ime]
@[simp] theorem push16_eiPending (s : State) (v : Word) : (s.push16 v).eiPending = s.eiPending := by simp only [State.push16, pushByte_eiPending]
@[simp] theorem push16_mode (s : State) (v : Word) : (s.push16 v).mode = s.mode := by simp only [State.push16, pushByte_mode]
@[simp] theorem push16_fault (s : State) (v : Word) : (s.push16 v).fault = s.fault := by simp only [State.push16, pushByte_fault]
@[simp] theorem push16_irqInputs (s : State) (v : Word) : (s.push16 v).irqInputs = s.irqInputs := by simp only [State.push16, pushByte_irqInputs]
@[simp] theorem push16_acks (s : State) (v : Word) : (s.push16 v).acks = s.acks := by simp only [State.push16, pushByte_acks]

@[simp] theorem push16_sp (s : State) (v : Word) : (s.push16 v).sp = s.sp - 1 - 1 := rfl

/-- A push is two writes and SP lowered by 2. -/
theorem push16_eq (s : State) (v : Word) :
    s.push16 v = ((s.write (s.sp - 1) (hiByte v)).write (s.sp - 1 - 1) (loByte v)).set16 .SP (s.sp - 1 - 1) := rfl

/-! ### Pops -/

@[simp] theorem pop16_a (s : State) : (s.pop16.2).a = s.a := by simp only [State.pop16, State.popByte, setSP_a, afterRead_a]
@[simp] theorem pop16_f (s : State) : (s.pop16.2).f = s.f := by simp only [State.pop16, State.popByte, setSP_f, afterRead_f]
@[simp] theorem pop16_b (s : State) : (s.pop16.2).b = s.b := by simp only [State.pop16, State.popByte, setSP_b, afterRead_b]
@[simp] theorem pop16_c (s : State) : (s.pop16.2).c = s.c := by simp only [State.pop16, State.popByte, setSP_c, afterRead_c]
@[simp] theorem pop16_d (s : State) : (s.pop16.2).d = s.d := by simp only [State.pop16, State.popByte, setSP_d, afterRead_d]
@[simp] theorem pop16_e (s : State) : (s.pop16.2).e = s.e := by simp only [State.pop16, State.popByte, setSP_e, afterRead_e]
@[simp] theorem pop16_h (s : State) : (s.pop16.2).h = s.h := by simp only [State.pop16, State.popByte, setSP_h, afterRead_h]
@[simp] theorem pop16_l (s : State) : (s.pop16.2).l = s.l := by simp only [State.pop16, State.popByte, setSP_l, afterRead_l]
@[simp] theorem pop16_pc (s : State) : (s.pop16.2).pc = s.pc := by simp only [State.pop16, State.popByte, setSP_pc, afterRead_pc]
@[simp] theorem pop16_ime (s : State) : (s.pop16.2).ime = s.ime := by simp only [State.pop16, State.popByte, setSP_ime, afterRead_ime]
@[simp] theorem pop16_eiPending (s : State) : (s.pop16.2).eiPending = s.eiPending := by simp only [State.pop16, State.popByte, setSP_eiPending, afterRead_eiPending]
@[simp] theorem pop16_mode (s : State) : (s.pop16.2).mode = s.mode := by simp only [State.pop16, State.popByte, setSP_mode, afterRead_mode]
@[simp] theorem pop16_fault (s : State) : (s.pop16.2).fault = s.fault := by simp only [State.pop16, State.popByte, setSP_fault, afterRead_fault]
@[simp] theorem pop16_irqInputs (s : State) : (s.pop16.2).irqInputs = s.irqInputs := by simp only [State.pop16, State.popByte, setSP_irqInputs, afterRead_irqInputs]
@[simp] theorem pop16_acks (s : State) : (s.pop16.2).acks = s.acks := by simp only [State.pop16, State.popByte, setSP_acks, afterRead_acks]

@[simp] theorem pop16_sp (s : State) : s.pop16.2.sp = s.sp + 1 + 1 := rfl

/-- A pop is a 16-bit read at SP and SP raised by 2. -/
theorem pop16_eq (s : State) : s.pop16 = ((s.read16 s.sp).1, (s.read16 s.sp).2.set16 .SP (s.sp + 1 + 1)) := rfl

/-! ### Faults and the parts of a step -/

@[simp] theorem recordFault_a (s : State) (k : FaultKind) (v : Byte) : (s.recordFault k v).a = s.a := rfl
@[simp] theorem recordFault_f (s : State) (k : FaultKind) (v : Byte) : (s.recordFault k v).f = s.f := rfl
@[simp] theorem recordFault_b (s : State) (k : FaultKind) (v : Byte) : (s.recordFault k v).b = s.b := rfl
@[simp] theorem recordFault_c (s : State) (k : FaultKind) (v : Byte) : (s.recordFault k v).c = s.c := rfl
@[simp] theorem recordFault_d (s : State) (k : FaultKind) (v : Byte) : (s.recordFault k v).d = s.d := rfl
@[simp] theorem recordFault_e (s : State) (k : FaultKind) (v : Byte) : (s.recordFault k v).e = s.e := rfl
@[simp] theorem recordFault_h (s : State) (k : FaultKind) (v : Byte) : (s.recordFault k v).h = s.h := rfl
@[simp] theorem recordFault_l (s : State) (k : FaultKind) (v : Byte) : (s.recordFault k v).l = s.l := rfl
@[simp] theorem recordFault_sp (s : State) (k : FaultKind) (v : Byte) : (s.recordFault k v).sp = s.sp := rfl
@[simp] theorem recordFault_pc (s : State) (k : FaultKind) (v : Byte) : (s.recordFault k v).pc = s.pc := rfl
@[simp] theorem recordFault_ime (s : State) (k : FaultKind) (v : Byte) : (s.recordFault k v).ime = s.ime := rfl
@[simp] theorem recordFault_eiPending (s : State) (k : FaultKind) (v : Byte) : (s.recordFault k v).eiPending = s.eiPending := rfl
@[simp] theorem recordFault_mode (s : State) (k : FaultKind) (v : Byte) : (s.recordFault k v).mode = s.mode := rfl
@[simp] theorem recordFault_mem (s : State) (k : FaultKind) (v : Byte) : (s.recordFault k v).mem = s.mem := rfl
@[simp] theorem recordFault_bus (s : State) (k : FaultKind) (v : Byte) : (s.recordFault k v).bus = s.bus := rfl
@[simp] theorem recordFault_busLog (s : State) (k : FaultKind) (v : Byte) : (s.recordFault k v).busLog = s.busLog := rfl
@[simp] theorem recordFault_irqInputs (s : State) (k : FaultKind) (v : Byte) : (s.recordFault k v).irqInputs = s.irqInputs := rfl
@[simp] theorem recordFault_acks (s : State) (k : FaultKind) (v : Byte) : (s.recordFault k v).acks = s.acks := rfl

@[simp] theorem nextInput_a (s : State) : (s.nextInput).a = s.a := rfl
@[simp] theorem nextInput_f (s : State) : (s.nextInput).f = s.f := rfl
@[simp] theorem nextInput_b (s : State) : (s.nextInput).b = s.b := rfl
@[simp] theorem nextInput_c (s : State) : (s.nextInput).c = s.c := rfl
@[simp] theorem nextInput_d (s : State) : (s.nextInput).d = s.d := rfl
@[simp] theorem nextInput_e (s : State) : (s.nextInput).e = s.e := rfl
@[simp] theorem nextInput_h (s : State) : (s.nextInput).h = s.h := rfl
@[simp] theorem nextInput_l (s : State) : (s.nextInput).l = s.l := rfl
@[simp] theorem nextInput_sp (s : State) : (s.nextInput).sp = s.sp := rfl
@[simp] theorem nextInput_pc (s : State) : (s.nextInput).pc = s.pc := rfl
@[simp] theorem nextInput_ime (s : State) : (s.nextInput).ime = s.ime := rfl
@[simp] theorem nextInput_eiPending (s : State) : (s.nextInput).eiPending = s.eiPending := rfl
@[simp] theorem nextInput_mode (s : State) : (s.nextInput).mode = s.mode := rfl
@[simp] theorem nextInput_fault (s : State) : (s.nextInput).fault = s.fault := rfl
@[simp] theorem nextInput_mem (s : State) : (s.nextInput).mem = s.mem := rfl
@[simp] theorem nextInput_bus (s : State) : (s.nextInput).bus = s.bus := rfl
@[simp] theorem nextInput_busLog (s : State) : (s.nextInput).busLog = s.busLog := rfl
@[simp] theorem nextInput_acks (s : State) : (s.nextInput).acks = s.acks := rfl

@[simp] theorem wake_a (s : State) : (s.wake).a = s.a := rfl
@[simp] theorem wake_f (s : State) : (s.wake).f = s.f := rfl
@[simp] theorem wake_b (s : State) : (s.wake).b = s.b := rfl
@[simp] theorem wake_c (s : State) : (s.wake).c = s.c := rfl
@[simp] theorem wake_d (s : State) : (s.wake).d = s.d := rfl
@[simp] theorem wake_e (s : State) : (s.wake).e = s.e := rfl
@[simp] theorem wake_h (s : State) : (s.wake).h = s.h := rfl
@[simp] theorem wake_l (s : State) : (s.wake).l = s.l := rfl
@[simp] theorem wake_sp (s : State) : (s.wake).sp = s.sp := rfl
@[simp] theorem wake_pc (s : State) : (s.wake).pc = s.pc := rfl
@[simp] theorem wake_ime (s : State) : (s.wake).ime = s.ime := rfl
@[simp] theorem wake_eiPending (s : State) : (s.wake).eiPending = s.eiPending := rfl
@[simp] theorem wake_fault (s : State) : (s.wake).fault = s.fault := rfl
@[simp] theorem wake_mem (s : State) : (s.wake).mem = s.mem := rfl
@[simp] theorem wake_bus (s : State) : (s.wake).bus = s.bus := rfl
@[simp] theorem wake_busLog (s : State) : (s.wake).busLog = s.busLog := rfl
@[simp] theorem wake_irqInputs (s : State) : (s.wake).irqInputs = s.irqInputs := rfl
@[simp] theorem wake_acks (s : State) : (s.wake).acks = s.acks := rfl

@[simp] theorem promoteEi_a (s : State) : (s.promoteEi).a = s.a := by unfold State.promoteEi; split <;> rfl
@[simp] theorem promoteEi_f (s : State) : (s.promoteEi).f = s.f := by unfold State.promoteEi; split <;> rfl
@[simp] theorem promoteEi_b (s : State) : (s.promoteEi).b = s.b := by unfold State.promoteEi; split <;> rfl
@[simp] theorem promoteEi_c (s : State) : (s.promoteEi).c = s.c := by unfold State.promoteEi; split <;> rfl
@[simp] theorem promoteEi_d (s : State) : (s.promoteEi).d = s.d := by unfold State.promoteEi; split <;> rfl
@[simp] theorem promoteEi_e (s : State) : (s.promoteEi).e = s.e := by unfold State.promoteEi; split <;> rfl
@[simp] theorem promoteEi_h (s : State) : (s.promoteEi).h = s.h := by unfold State.promoteEi; split <;> rfl
@[simp] theorem promoteEi_l (s : State) : (s.promoteEi).l = s.l := by unfold State.promoteEi; split <;> rfl
@[simp] theorem promoteEi_sp (s : State) : (s.promoteEi).sp = s.sp := by unfold State.promoteEi; split <;> rfl
@[simp] theorem promoteEi_pc (s : State) : (s.promoteEi).pc = s.pc := by unfold State.promoteEi; split <;> rfl
@[simp] theorem promoteEi_mode (s : State) : (s.promoteEi).mode = s.mode := by unfold State.promoteEi; split <;> rfl
@[simp] theorem promoteEi_fault (s : State) : (s.promoteEi).fault = s.fault := by unfold State.promoteEi; split <;> rfl
@[simp] theorem promoteEi_mem (s : State) : (s.promoteEi).mem = s.mem := by unfold State.promoteEi; split <;> rfl
@[simp] theorem promoteEi_bus (s : State) : (s.promoteEi).bus = s.bus := by unfold State.promoteEi; split <;> rfl
@[simp] theorem promoteEi_busLog (s : State) : (s.promoteEi).busLog = s.busLog := by unfold State.promoteEi; split <;> rfl
@[simp] theorem promoteEi_irqInputs (s : State) : (s.promoteEi).irqInputs = s.irqInputs := by unfold State.promoteEi; split <;> rfl
@[simp] theorem promoteEi_acks (s : State) : (s.promoteEi).acks = s.acks := by unfold State.promoteEi; split <;> rfl

@[simp] theorem dispatchIrq_a (s : State) (n : IrqLine) : (s.dispatchIrq n).a = s.a := by simp only [State.dispatchIrq, jumpTo_a, push16_a]
@[simp] theorem dispatchIrq_f (s : State) (n : IrqLine) : (s.dispatchIrq n).f = s.f := by simp only [State.dispatchIrq, jumpTo_f, push16_f]
@[simp] theorem dispatchIrq_b (s : State) (n : IrqLine) : (s.dispatchIrq n).b = s.b := by simp only [State.dispatchIrq, jumpTo_b, push16_b]
@[simp] theorem dispatchIrq_c (s : State) (n : IrqLine) : (s.dispatchIrq n).c = s.c := by simp only [State.dispatchIrq, jumpTo_c, push16_c]
@[simp] theorem dispatchIrq_d (s : State) (n : IrqLine) : (s.dispatchIrq n).d = s.d := by simp only [State.dispatchIrq, jumpTo_d, push16_d]
@[simp] theorem dispatchIrq_e (s : State) (n : IrqLine) : (s.dispatchIrq n).e = s.e := by simp only [State.dispatchIrq, jumpTo_e, push16_e]
@[simp] theorem dispatchIrq_h (s : State) (n : IrqLine) : (s.dispatchIrq n).h = s.h := by simp only [State.dispatchIrq, jumpTo_h, push16_h]
@[simp] theorem dispatchIrq_l (s : State) (n : IrqLine) : (s.dispatchIrq n).l = s.l := by simp only [State.dispatchIrq, jumpTo_l, push16_l]
@[simp] theorem dispatchIrq_mode (s : State) (n : IrqLine) : (s.dispatchIrq n).mode = s.mode := by simp only [State.dispatchIrq, jumpTo_mode, push16_mode]
@[simp] theorem dispatchIrq_fault (s : State) (n : IrqLine) : (s.dispatchIrq n).fault = s.fault := by simp only [State.dispatchIrq, jumpTo_fault, push16_fault]
@[simp] theorem dispatchIrq_irqInputs (s : State) (n : IrqLine) : (s.dispatchIrq n).irqInputs = s.irqInputs := by simp only [State.dispatchIrq, jumpTo_irqInputs, push16_irqInputs]

@[simp] theorem returnIrq_a (s : State) : (s.returnIrq).a = s.a := by simp only [State.returnIrq, jumpTo_a, pop16_a]
@[simp] theorem returnIrq_f (s : State) : (s.returnIrq).f = s.f := by simp only [State.returnIrq, jumpTo_f, pop16_f]
@[simp] theorem returnIrq_b (s : State) : (s.returnIrq).b = s.b := by simp only [State.returnIrq, jumpTo_b, pop16_b]
@[simp] theorem returnIrq_c (s : State) : (s.returnIrq).c = s.c := by simp only [State.returnIrq, jumpTo_c, pop16_c]
@[simp] theorem returnIrq_d (s : State) : (s.returnIrq).d = s.d := by simp only [State.returnIrq, jumpTo_d, pop16_d]
@[simp] theorem returnIrq_e (s : State) : (s.returnIrq).e = s.e := by simp only [State.returnIrq, jumpTo_e, pop16_e]
@[simp] theorem returnIrq_h (s : State) : (s.returnIrq).h = s.h := by simp only [State.returnIrq, jumpTo_h, pop16_h]
@[simp] theorem returnIrq_l (s : State) : (s.returnIrq).l = s.l := by simp only [State.returnIrq, jumpTo_l, pop16_l]
@[simp] theorem returnIrq_eiPending (s : State) : (s.returnIrq).eiPending = s.eiPending := by simp only [State.returnIrq, jumpTo_eiPending, pop16_eiPending]
@[simp] theorem returnIrq_mode (s : State) : (s.returnIrq).mode = s.mode := by simp only [State.returnIrq, jumpTo_mode, pop16_mode]
@[simp] theorem returnIrq_fault (s : State) : (s.returnIrq).fault = s.fault := by simp only [State.returnIrq, jumpTo_fault, pop16_fault]
@[simp] theorem returnIrq_irqInputs (s : State) : (s.returnIrq).irqInputs = s.irqInputs := by simp only [State.returnIrq, jumpTo_irqInputs, pop16_irqInputs]
@[simp] theorem returnIrq_acks (s : State) : (s.returnIrq).acks = s.acks := by simp only [State.returnIrq, jumpTo_acks, pop16_acks]

@[simp] theorem fetch_a (s : State) : (s.fetch.2).a = s.a := by unfold State.fetch; dsimp only; split <;> rfl
@[simp] theorem fetch_f (s : State) : (s.fetch.2).f = s.f := by unfold State.fetch; dsimp only; split <;> rfl
@[simp] theorem fetch_b (s : State) : (s.fetch.2).b = s.b := by unfold State.fetch; dsimp only; split <;> rfl
@[simp] theorem fetch_c (s : State) : (s.fetch.2).c = s.c := by unfold State.fetch; dsimp only; split <;> rfl
@[simp] theorem fetch_d (s : State) : (s.fetch.2).d = s.d := by unfold State.fetch; dsimp only; split <;> rfl
@[simp] theorem fetch_e (s : State) : (s.fetch.2).e = s.e := by unfold State.fetch; dsimp only; split <;> rfl
@[simp] theorem fetch_h (s : State) : (s.fetch.2).h = s.h := by unfold State.fetch; dsimp only; split <;> rfl
@[simp] theorem fetch_l (s : State) : (s.fetch.2).l = s.l := by unfold State.fetch; dsimp only; split <;> rfl
@[simp] theorem fetch_sp (s : State) : (s.fetch.2).sp = s.sp := by unfold State.fetch; dsimp only; split <;> rfl
@[simp] theorem fetch_pc (s : State) : (s.fetch.2).pc = s.pc := by unfold State.fetch; dsimp only; split <;> rfl
@[simp] theorem fetch_ime (s : State) : (s.fetch.2).ime = s.ime := by unfold State.fetch; dsimp only; split <;> rfl
@[simp] theorem fetch_eiPending (s : State) : (s.fetch.2).eiPending = s.eiPending := by unfold State.fetch; dsimp only; split <;> rfl
@[simp] theorem fetch_mode (s : State) : (s.fetch.2).mode = s.mode := by unfold State.fetch; dsimp only; split <;> rfl
@[simp] theorem fetch_fault (s : State) : (s.fetch.2).fault = s.fault := by unfold State.fetch; dsimp only; split <;> rfl
@[simp] theorem fetch_irqInputs (s : State) : (s.fetch.2).irqInputs = s.irqInputs := by unfold State.fetch; dsimp only; split <;> rfl
@[simp] theorem fetch_acks (s : State) : (s.fetch.2).acks = s.acks := by unfold State.fetch; dsimp only; split <;> rfl

end Sys2Proof.Laws
end

