-- ==== Sys2Proof/Laws/Memory.lean ====
section
/-! SUPPORT. The laws of memory: every write keeps the canonical form, a read after a write, and that canonical memories with the
same bytes are the same list. -/

namespace Sys2Proof.Laws

open Sys2Proof.Machine

/-- The canonical form of a list is that of its tail, with the head below everything. -/
theorem wf_cons (k : Nat) (w : Byte) (m : List Host.Cell) :
    Memory.wf ((k, w) :: m) ↔ (∀ x ∈ m, k < x.1) ∧ k < 65536 ∧ w ≠ Config.unlistedByte ∧ Memory.wf m := by
  simp only [Memory.wf, List.pairwise_cons, List.forall_mem_cons]
  tauto

/-- An address below everything listed reads as an unlisted one. -/
theorem readCells_below (m : List Host.Cell) (a : Nat) (h : ∀ x ∈ m, a < x.1) : readCells m a = Config.unlistedByte := by
  cases m with
  | nil => rfl
  | cons x m =>
    have := h x (List.mem_cons_self ..)
    simp only [readCells]
    rw [if_neg (by omega), if_neg (by omega)]

/-- Every address a write lists is the written one or was listed. -/
theorem writeCells_mem (m : List Host.Cell) (a : Nat) (v : Byte) :
    ∀ x ∈ writeCells m a v, x = (a, v) ∨ x ∈ m := by
  induction m with
  | nil => intro x; simp only [writeCells]; split <;> simp
  | cons y m ih =>
    intro x
    simp only [writeCells]
    split
    · rw [List.mem_cons]
      rintro (rfl | h)
      · simp
      · rcases ih x h with rfl | h <;> simp_all
    · split <;> split <;> simp only [List.mem_cons] <;> tauto

/-- A write keeps the canonical form. -/
theorem writeCells_wf (m : List Host.Cell) (a : Nat) (v : Byte) (ha : a < 65536) (h : Memory.wf m) :
    Memory.wf (writeCells m a v) := by
  induction m with
  | nil =>
    simp only [writeCells]
    split
    · exact h
    · exact (wf_cons ..).2 ⟨by simp, ha, ‹_›, h⟩
  | cons y m ih =>
    obtain ⟨k, w⟩ := y
    obtain ⟨hk, hk', hw, hm⟩ := (wf_cons ..).1 h
    simp only [writeCells]
    split
    · refine (wf_cons ..).2 ⟨fun x hx => ?_, hk', hw, ih hm⟩
      rcases writeCells_mem m a v x hx with rfl | hx
      · assumption
      · exact hk x hx
    · split
      · subst a
        split
        · exact hm
        · exact (wf_cons ..).2 ⟨hk, hk', ‹_›, hm⟩
      · split
        · exact h
        · refine (wf_cons ..).2 ⟨fun x hx => ?_, ha, ‹_›, h⟩
          rcases List.mem_cons.1 hx with rfl | hx
          · simp only; omega
          · have := hk x hx; omega

/-- A read after a write, in canonical memory. -/
theorem readCells_writeCells (m : List Host.Cell) (a b : Nat) (v : Byte) (h : Memory.wf m) :
    readCells (writeCells m a v) b = if b = a then v else readCells m b := by
  induction m with
  | nil =>
    by_cases hv : v = Config.unlistedByte
    · simp only [writeCells, if_pos hv, readCells]; split <;> simp_all
    · simp only [writeCells, if_neg hv, readCells]; split <;> simp_all
  | cons y m ih =>
    obtain ⟨k, w⟩ := y
    obtain ⟨hk, _, hw, hm⟩ := (wf_cons ..).1 h
    have below : ∀ c, c ≤ k → readCells m c = Config.unlistedByte := fun c hc =>
      readCells_below m c fun x hx => by have := hk x hx; omega
    simp only [writeCells]
    split
    · simp only [readCells, ih hm]
      split_ifs <;> first | rfl | omega
    · by_cases hab : a = k
      · subst hab
        rw [if_pos rfl]
        by_cases hv : v = Config.unlistedByte
        · rw [if_pos hv, readCells]
          split_ifs with h1 h2
          · rw [h1, below a le_rfl, hv]
          · rfl
          · exact below b (by omega)
        · rw [if_neg hv]; simp only [readCells]; split_ifs <;> rfl
      · rw [if_neg hab]
        by_cases hv : v = Config.unlistedByte
        · rw [if_pos hv]
          split_ifs with h1
          · subst h1
            rw [readCells, if_neg hab, if_neg (by omega), hv]
          · rfl
        · rw [if_neg hv]
          simp only [readCells]
          split_ifs <;> first | rfl | omega

/-- A byte of canonical memory is listed exactly when it does not read as an unlisted one. -/
theorem readCells_eq_iff (m : List Host.Cell) (a : Nat) (v : Byte) (h : Memory.wf m) (hv : v ≠ Config.unlistedByte) :
    readCells m a = v ↔ (a, v) ∈ m := by
  induction m with
  | nil => simp only [readCells, List.not_mem_nil, iff_false]; exact fun e => hv e.symm
  | cons y m ih =>
    obtain ⟨k, w⟩ := y
    obtain ⟨hk, _, _, hm⟩ := (wf_cons ..).1 h
    have lt : ∀ u, (a, u) ∈ m → k < a := fun u hu => hk (a, u) hu
    simp only [readCells, List.mem_cons, Prod.mk.injEq]
    split_ifs with h1 h2
    · exact ⟨fun e => .inl ⟨h1, e.symm⟩, fun e => e.elim (fun e => e.2.symm) fun e => absurd (lt _ e) (by omega)⟩
    · rw [ih hm]
      exact ⟨.inr, fun e => e.resolve_left fun e => h1 e.1⟩
    · exact ⟨fun e => absurd e.symm hv, fun e => e.elim (fun e => absurd e.1 h1) fun e => absurd (lt _ e) h2⟩

/-- A byte put into the store and looked up. -/
theorem peek_poke (s : State) (a b : Word) (v : Byte) (h : Memory.wf s.mem) :
    (s.poke a v).peek b = if b = a then v else s.peek b := by
  simp only [State.peek, poke_mem, readCells_writeCells _ _ _ _ h, BitVec.toNat_inj]

end Sys2Proof.Laws
end

