-- ==== Sys2Proof/Laws/Bus.lean ====
section
/-! SUPPORT. The laws of an access through the `Bus` (20_memory.md R43, R44): what it does by the kind of its address, that it keeps
the canonical form and the address map, and the bytes of the store it leaves alone. -/

namespace Sys2Proof.Laws

open Sys2Proof.Machine

/-! ### By the kind of the address -/

/-- Where no region is, everything is `ram`. -/
theorem kindAt_flat {s : State} (h : s.bus.regions = []) (a : Word) : s.kindAt a = .ram := by
  simp only [State.kindAt, h, kindIn]

theorem read_ram {s : State} {a : Word} (h : s.kindAt a = .ram) : s.read a = s.peek a := by
  simp only [State.kindAt] at h; simp only [State.read, valueRead, h, State.peek]

theorem read_rom {s : State} {a : Word} (h : s.kindAt a = .rom) : s.read a = s.peek a := by
  simp only [State.kindAt] at h; simp only [State.read, valueRead, h, State.peek]

theorem read_notDevice {s : State} {a : Word} (h : s.kindAt a ≠ .device) : s.read a = s.peek a := by
  cases k : s.kindAt a
  · exact read_ram k
  · exact read_rom k
  · exact absurd k h

theorem read_device {s : State} {a : Word} {r : Config.BusAnswer} {l : List Config.BusAnswer} (h : s.kindAt a = .device)
    (hr : s.bus.answers = r :: l) : s.read a = r.value := by
  simp only [State.kindAt] at h; simp only [State.read, valueRead, h, hr]

theorem read_spent {s : State} {a : Word} (hr : s.bus.answers = []) : s.read a = s.peek a := by
  simp only [State.read, valueRead, hr]; split <;> rfl

theorem access_ram {s : State} {x : BusAccess} (h : s.kindAt x.address = .ram) :
    s.access x = { s with mem := flatAfter s.mem x } := by
  simp only [State.kindAt] at h; simp only [State.access, storeAfter, busAfter, busLogAfter, h]

theorem access_rom {s : State} {x : BusAccess} (h : s.kindAt x.address = .rom) : s.access x = s := by
  simp only [State.kindAt] at h; simp only [State.access, storeAfter, busAfter, busLogAfter, h]

theorem access_device {s : State} {x : BusAccess} {r : Config.BusAnswer} {l : List Config.BusAnswer}
    (h : s.kindAt x.address = .device) (hr : s.bus.answers = r :: l) :
    s.access x =
      { s with mem := applyStores s.mem r.stores, bus := { s.bus with answers := l }, busLog := s.busLog ++ [x] } := by
  simp only [State.kindAt] at h; simp only [State.access, storeAfter, busAfter, busLogAfter, h, hr, List.tail_cons]

theorem access_spent {s : State} {x : BusAccess} (h : s.kindAt x.address = .device) (hr : s.bus.answers = []) :
    s.access x = { s with mem := flatAfter s.mem x, busLog := s.busLog ++ [x] } := by
  simp only [State.kindAt] at h; simp only [State.access, storeAfter, busAfter, busLogAfter, h, hr, List.tail_nil]
  rw [← hr]

theorem afterRead_ram {s : State} {a : Word} (h : s.kindAt a = .ram) : s.afterRead a = s := access_ram (x := .read a) h

theorem afterRead_rom {s : State} {a : Word} (h : s.kindAt a = .rom) : s.afterRead a = s := access_rom (x := .read a) h

theorem write_ram {s : State} {a : Word} {v : Byte} (h : s.kindAt a = .ram) : s.write a v = s.poke a v :=
  access_ram (x := .write a v) h

theorem write_rom {s : State} {a : Word} {v : Byte} (h : s.kindAt a = .rom) : s.write a v = s := access_rom (x := .write a v) h

/-! ### What every access keeps -/

/-- An access uses up answers at most. -/
theorem busAfter_answers (b : Config.Bus) (x : BusAccess) : (busAfter b x).answers = b.answers ∨ (busAfter b x).answers = b.answers.tail := by
  unfold busAfter; split <;> simp

/-- No access changes the address map. -/
@[simp] theorem busAfter_regions (b : Config.Bus) (x : BusAccess) : (busAfter b x).regions = b.regions := by
  unfold busAfter; split <;> rfl

theorem applyStores_wf (l : List (Word × Byte)) (m : List Host.Cell) (h : Memory.wf m) : Memory.wf (applyStores m l) := by
  induction l generalizing m with
  | nil => exact h
  | cons x l ih => exact ih _ (writeCells_wf _ _ _ x.1.isLt h)

/-- A device's answer changes the bytes it names and no other. -/
theorem readCells_applyStores (l : List (Word × Byte)) (m : List Host.Cell) (a : Word) (h : Memory.wf m) (ha : ∀ x ∈ l, x.1 ≠ a) :
    readCells (applyStores m l) a.toNat = readCells m a.toNat := by
  induction l generalizing m with
  | nil => rfl
  | cons x l ih =>
    rw [applyStores, ih _ (writeCells_wf _ _ _ x.1.isLt h) fun y hy => ha y (List.mem_cons_of_mem _ hy),
      readCells_writeCells _ _ _ _ h, if_neg]
    intro e
    exact ha x (List.mem_cons_self ..) (BitVec.eq_of_toNat_eq e.symm)

theorem flatAfter_wf (m : List Host.Cell) (x : BusAccess) (h : Memory.wf m) : Memory.wf (flatAfter m x) := by
  cases x with
  | read a => exact h
  | write a v => exact writeCells_wf _ _ _ a.isLt h

/-- Every access keeps the canonical form. -/
theorem access_wf (s : State) (x : BusAccess) (h : Memory.wf s.mem) : Memory.wf (s.access x).mem := by
  rw [access_mem]
  unfold storeAfter
  split
  · exact flatAfter_wf _ _ h
  · exact h
  · split
    · exact flatAfter_wf _ _ h
    · exact applyStores_wf _ _ h

/-- Buses with the same address map and answers are the same. -/
theorem bus_ext {b b' : Config.Bus} (hr : b'.regions = b.regions) (ha : b'.answers = b.answers) : b' = b := by
  cases b; cases b'; cases hr; cases ha; rfl

/-- From `s` to `t` the address map stays, and the devices have given one answer, in order, for each access `t` has logged since, all
of them to devices. -/
def BusRuns (s t : State) : Prop :=
  t.bus.regions = s.bus.regions ∧ ∃ seen, t.busLog = s.busLog ++ seen ∧ t.bus.answers = s.bus.answers.drop seen.length ∧
    ∀ x ∈ seen, s.kindAt x.address = .device

theorem BusRuns.trans {s t u : State} (h : BusRuns s t) (g : BusRuns t u) : BusRuns s u := by
  obtain ⟨h, x, hl, ha, hd⟩ := h
  obtain ⟨g, y, gl, ga, gd⟩ := g
  refine ⟨g.trans h, x ++ y, ?_, ?_, ?_⟩
  · rw [gl, hl, List.append_assoc]
  · rw [ga, ha, List.drop_drop, List.length_append]
  · rw [List.forall_mem_append]
    exact ⟨hd, fun z hz => by rw [← gd z hz, State.kindAt, State.kindAt, h]⟩

/-- An update of other cells. -/
theorem BusRuns.of_eq {s t : State} (hb : t.bus = s.bus) (hl : t.busLog = s.busLog) : BusRuns s t :=
  ⟨by rw [hb], [], by rw [hl, List.append_nil], by rw [hb]; rfl, fun _ h => absurd h List.not_mem_nil⟩

/-- Where no region is, the devices have answered nothing. -/
theorem BusRuns.flat {s t : State} (h : BusRuns s t) (hr : s.bus.regions = []) : t.bus = s.bus ∧ t.busLog = s.busLog := by
  obtain ⟨g, seen, hl, ha, hd⟩ := h
  cases seen with
  | nil => exact ⟨bus_ext g ha, by rw [hl, List.append_nil]⟩
  | cons x l =>
    have := hd x (List.mem_cons_self ..)
    rw [kindAt_flat hr] at this
    cases this

theorem access_busRuns (s : State) (x : BusAccess) : BusRuns s (s.access x) := by
  refine ⟨busAfter_regions .., ?_⟩
  simp only [access_bus, access_busLog, busAfter, busLogAfter]
  split
  · exact ⟨[x], rfl, List.drop_one.symm, fun y hy => by rw [List.mem_singleton.1 hy]; assumption⟩
  · exact ⟨[], (List.append_nil _).symm, rfl, fun _ h => absurd h List.not_mem_nil⟩
  · exact ⟨[], (List.append_nil _).symm, rfl, fun _ h => absurd h List.not_mem_nil⟩

/-! ### What the store keeps at an address -/

@[simp] theorem access_kindAt (s : State) (x : BusAccess) (a : Word) : (s.access x).kindAt a = s.kindAt a := by
  simp only [State.kindAt, access_bus, busAfter_regions]

theorem write_kindAt (s : State) (a b : Word) (v : Byte) : (s.write a v).kindAt b = s.kindAt b := access_kindAt ..

theorem write_wf (s : State) (a : Word) (v : Byte) (h : Memory.wf s.mem) : Memory.wf (s.write a v).mem := access_wf s _ h

/-- A byte written to RAM and read back. -/
theorem read_write_ram {s : State} {a : Word} (v : Byte) (b : Word) (h : Memory.wf s.mem) (k : s.kindAt a = .ram) :
    (s.write a v).read b = if b = a then v else s.read b := by
  have p := peek_poke s a b v h
  have e : (s.poke a v).bus = s.bus := rfl
  by_cases hb : b = a
  · subst hb
    rw [if_pos rfl] at p ⊢
    rw [read_ram ((write_kindAt ..).trans k), write_ram k, p]
  · rw [if_neg hb] at p ⊢
    rw [write_ram k, State.read, State.read, valueRead, valueRead, e]
    simp only [State.peek] at p
    rw [p]

/-- From `s` to `t` the devices answer as in `BusRuns`, the canonical form stays, and the byte of the store at `a` stays unless an answer that a
device has yet to give in `s` changes it. -/
def Quiet (a : Word) (s t : State) : Prop :=
  BusRuns s t ∧ (Memory.wf s.mem → Memory.wf t.mem) ∧ (¬s.busStores a → ¬t.busStores a) ∧
  (Memory.wf s.mem → ¬s.busStores a → t.peek a = s.peek a)

theorem Quiet.refl (a : Word) (s : State) : Quiet a s s := ⟨.of_eq rfl rfl, id, id, fun _ _ => rfl⟩

theorem Quiet.trans {a : Word} {s t u : State} (h : Quiet a s t) (g : Quiet a t u) : Quiet a s u :=
  ⟨h.1.trans g.1, g.2.1 ∘ h.2.1, g.2.2.1 ∘ h.2.2.1, fun w n => (g.2.2.2 (h.2.1 w) (h.2.2.1 n)).trans (h.2.2.2 w n)⟩

/-- An update of other cells. -/
theorem Quiet.of_eq {a : Word} {s t : State} (hb : t.bus = s.bus) (hl : t.busLog = s.busLog) (hm : t.mem = s.mem) : Quiet a s t := by
  refine ⟨.of_eq hb hl, ?_⟩
  simp only [State.busStores, State.peek, hb, hm]
  exact ⟨id, id, fun _ _ => trivial⟩

/-- An access that does not write at `a`. -/
theorem access_quiet (a : Word) (s : State) (x : BusAccess) (hx : ∀ v, x ≠ .write a v) : Quiet a s (s.access x) := by
  have flat : Memory.wf s.mem → readCells (flatAfter s.mem x) a.toNat = readCells s.mem a.toNat := by
    intro h
    cases x with
    | read b => rfl
    | write b v =>
      rw [flatAfter, readCells_writeCells _ _ _ _ h, if_neg]
      intro e
      exact hx v (by rw [BitVec.eq_of_toNat_eq e])
  refine ⟨access_busRuns s x, access_wf s x, fun n ⟨r, hr, y, hy, e⟩ => n ⟨r, ?_, y, hy, e⟩, fun h n => ?_⟩
  · rcases busAfter_answers s.bus x with g | g
    · exact g ▸ hr
    · exact List.mem_of_mem_tail (g ▸ hr)
  · simp only [State.peek, access_mem, storeAfter]
    split
    · exact flat h
    · rfl
    · split
      · exact flat h
      · rename_i r l g
        exact readCells_applyStores _ _ _ h fun y hy e => n ⟨r, g ▸ List.mem_cons_self .., y, hy, e⟩

theorem afterRead_quiet (a : Word) (s : State) (b : Word) : Quiet a s (s.afterRead b) := access_quiet a s _ (by simp)

theorem write_quiet (a : Word) (s : State) (b : Word) (v : Byte) (h : a ≠ b) : Quiet a s (s.write b v) :=
  access_quiet a s _ fun w e => h (by injection e with e; exact e.symm)

/-- Where no device answers, a read after is the read before. -/
theorem Quiet.read {a : Word} {s t : State} (h : Quiet a s t) (w : Memory.wf s.mem) (n : ¬s.busStores a) (k : s.kindAt a ≠ .device) :
    t.read a = s.read a := by
  have k' : t.kindAt a = s.kindAt a := by simp only [State.kindAt, h.1.1]
  rw [read_notDevice k, read_notDevice (k' ▸ k), h.2.2.2 w n]

/-- A push writes the two bytes below SP and no other. -/
theorem push16_quiet (a : Word) (s : State) (v : Word) (h1 : a ≠ s.sp - 1) (h2 : a ≠ s.sp - 1 - 1) : Quiet a s (s.push16 v) := by
  rw [push16_eq]
  exact (write_quiet a s _ _ h1).trans ((write_quiet a _ _ _ h2).trans (.of_eq rfl rfl rfl))

theorem pop16_quiet (a : Word) (s : State) : Quiet a s s.pop16.2 := by
  rw [pop16_eq]
  exact (afterRead_quiet a s _).trans ((afterRead_quiet a _ _).trans (.of_eq rfl rfl rfl))

/-- Fetching stores nothing but what a device's answers say. -/
theorem fetch_quiet (a : Word) (s : State) : Quiet a s s.fetch.2 := by
  unfold State.fetch
  dsimp only
  split
  · exact afterRead_quiet ..
  · exact (afterRead_quiet ..).trans (afterRead_quiet ..)
  · exact (afterRead_quiet ..).trans ((afterRead_quiet ..).trans (afterRead_quiet ..))

/-- The fetched instruction is one with the byte read at PC as its opcode. -/
theorem fetch_opcode (s : State) : ∃ w1 w2, s.fetch.1 = decodeWindow (s.read s.pc) w1 w2 := by
  unfold State.fetch
  dsimp only
  split <;> exact ⟨_, _, rfl⟩

/-! ### The flat store -/

/-- With no regions a read leaves the state as it was. -/
theorem afterRead_flat {s : State} (h : s.bus.regions = []) (a : Word) : s.afterRead a = s := afterRead_ram (kindAt_flat h a)

/-- With no regions a fetch leaves the state as it was. -/
theorem fetch_flat {s : State} (h : s.bus.regions = []) : s.fetch.2 = s := by
  unfold State.fetch
  dsimp only
  split <;> simp only [afterRead_flat h]

/-- With no regions a byte written is read back. -/
theorem read_write_flat {s : State} (h : s.bus.regions = []) (a b : Word) (v : Byte) (w : Memory.wf s.mem) :
    (s.write a v).read b = if b = a then v else s.read b := read_write_ram v b w (kindAt_flat h a)

end Sys2Proof.Laws
end

