-- ==== Sys2Proof/Laws/Flags.lean ====
section
/-! SUPPORT. The bits of F after flags are written (10_state.md R20), and the arithmetic of byte masks. -/

namespace Sys2Proof.Laws

open Sys2Proof.Machine

@[simp] theorem packFlags_bit7 (z n h c : Bool) (o : Byte) : (packFlags z n h c o).getLsbD 7 = z := by
  simp only [packFlags, BitVec.getLsbD_append, BitVec.getLsbD_ofBool]; simp

@[simp] theorem packFlags_bit6 (z n h c : Bool) (o : Byte) : (packFlags z n h c o).getLsbD 6 = n := by
  simp only [packFlags, BitVec.getLsbD_append, BitVec.getLsbD_ofBool]; simp

@[simp] theorem packFlags_bit5 (z n h c : Bool) (o : Byte) : (packFlags z n h c o).getLsbD 5 = h := by
  simp only [packFlags, BitVec.getLsbD_append, BitVec.getLsbD_ofBool]; simp

@[simp] theorem packFlags_bit4 (z n h c : Bool) (o : Byte) : (packFlags z n h c o).getLsbD 4 = c := by
  simp only [packFlags, BitVec.getLsbD_append, BitVec.getLsbD_ofBool]; simp

@[simp] theorem packFlags_getElem7 (z n h c : Bool) (o : Byte) : (packFlags z n h c o)[7] = z := packFlags_bit7 ..

@[simp] theorem packFlags_getElem6 (z n h c : Bool) (o : Byte) : (packFlags z n h c o)[6] = n := packFlags_bit6 ..

@[simp] theorem packFlags_getElem5 (z n h c : Bool) (o : Byte) : (packFlags z n h c o)[5] = h := packFlags_bit5 ..

@[simp] theorem packFlags_getElem4 (z n h c : Bool) (o : Byte) : (packFlags z n h c o)[4] = c := packFlags_bit4 ..

/-- A low bit of F after flags are written. -/
theorem packFlags_lowBit (z n h c : Bool) (o : Byte) (i : Nat) (hi : i < 4) :
    (packFlags z n h c o).getLsbD i = o.getLsbD i := by
  simp only [packFlags, BitVec.getLsbD_append, BitVec.getLsbD_extractLsb', hi, decide_true, if_true]
  simp

/-- Writing flags leaves F's low nibble as it was (00_scope.md R16). -/
@[simp] theorem packFlags_low (z n h c : Bool) (o : Byte) : packFlags z n h c o &&& 0x0F#8 = o &&& 0x0F#8 := by
  apply BitVec.eq_of_getLsbD_eq
  intro i hi
  rw [BitVec.getLsbD_and, BitVec.getLsbD_and]
  by_cases h4 : i < 4
  · rw [packFlags_lowBit z n h c o i h4]
  · have : (0x0F#8).getLsbD i = false := by
      match i, hi, h4 with
      | 4, _, _ | 5, _, _ | 6, _, _ | 7, _, _ => rfl
    rw [this, Bool.and_false, Bool.and_false]

/-- A byte masked with 0xF0 has a zero low nibble (10_state.md R21). -/
theorem high_mask_low (v : Byte) : v &&& 0xF0#8 &&& 0x0F#8 = 0#8 := by
  rw [BitVec.and_assoc]; simp

@[simp] theorem setFlags_flagZ (s : State) (z n h c : Bool) : (s.setFlags z n h c).flagZ = z := packFlags_bit7 ..

@[simp] theorem setFlags_flagN (s : State) (z n h c : Bool) : (s.setFlags z n h c).flagN = n := packFlags_bit6 ..

@[simp] theorem setFlags_flagH (s : State) (z n h c : Bool) : (s.setFlags z n h c).flagH = h := packFlags_bit5 ..

@[simp] theorem setFlags_flagC (s : State) (z n h c : Bool) : (s.setFlags z n h c).flagC = c := packFlags_bit4 ..

end Sys2Proof.Laws
end

