-- ==== Sys2Proof/Laws/Ops.lean ====
section
/-! SUPPORT. For each shared operation, once: that it keeps the invariant, that it leaves the control cells alone, and which byte it
stores to. -/

namespace Sys2Proof.Laws

open Sys2Proof.Machine

/-- The control cells of `t` (IME, `ei_pending`, mode, fault, the inputs and the acknowledgements) are those of `s`. -/
def SameControl (s t : State) : Prop :=
  t.ime = s.ime ∧ t.eiPending = s.eiPending ∧ t.mode = s.mode ∧ t.fault = s.fault ∧ t.irqInputs = s.irqInputs ∧ t.acks = s.acks

theorem SameControl.refl (s : State) : SameControl s s := ⟨rfl, rfl, rfl, rfl, rfl, rfl⟩

theorem SameControl.trans {s t u : State} (h : SameControl s t) (g : SameControl t u) : SameControl s u :=
  ⟨g.1.trans h.1, g.2.1.trans h.2.1, g.2.2.1.trans h.2.2.1, g.2.2.2.1.trans h.2.2.2.1, g.2.2.2.2.1.trans h.2.2.2.2.1,
    g.2.2.2.2.2.trans h.2.2.2.2.2⟩

/-! ### Single updates -/

theorem write_control (s : State) (a : Word) (v : Byte) : SameControl s (s.write a v) := by simp [SameControl]

theorem afterRead_control (s : State) (a : Word) : SameControl s (s.afterRead a) := by simp [SameControl]

theorem set8_control (s : State) (r : Reg8) (v : Byte) : SameControl s (s.set8 r v) := by simp [SameControl]

theorem set16_control (s : State) (p : Reg16) (v : Word) : SameControl s (s.set16 p v) := by simp [SameControl]

theorem setFlags_control (s : State) (z n h c : Bool) : SameControl s (s.setFlags z n h c) := by simp [SameControl]

theorem advance_control (s : State) (n : Word) : SameControl s (s.advance n) := by simp [SameControl]

theorem jumpTo_control (s : State) (t : Word) : SameControl s (s.jumpTo t) := by simp [SameControl]

theorem push16_control (s : State) (v : Word) : SameControl s (s.push16 v) := by simp [SameControl]

theorem pop16_control (s : State) : SameControl s s.pop16.2 := by simp [SameControl]

theorem afterRead_inv (s : State) (a : Word) (h : s.Inv) : (s.afterRead a).Inv := ⟨access_wf s _ h.1, h.2⟩

theorem write_inv (s : State) (a : Word) (v : Byte) (h : s.Inv) : (s.write a v).Inv := ⟨access_wf s _ h.1, h.2⟩

theorem set8_inv (s : State) (r : Reg8) (v : Byte) (h : s.Inv) : (s.set8 r v).Inv := by
  simpa [State.Inv] using h

theorem set16_inv (s : State) (p : Reg16) (v : Word) (h : s.Inv) : (s.set16 p v).Inv := by
  refine ⟨by simpa using h.1, ?_⟩
  cases p
  case AF => exact high_mask_low _
  all_goals exact h.2

theorem setFlags_inv (s : State) (z n h c : Bool) (hs : s.Inv) : (s.setFlags z n h c).Inv :=
  ⟨hs.1, (packFlags_low z n h c s.f).trans hs.2⟩

theorem advance_inv (s : State) (n : Word) (h : s.Inv) : (s.advance n).Inv := h

theorem jumpTo_inv (s : State) (t : Word) (h : s.Inv) : (s.jumpTo t).Inv := h

theorem push16_inv (s : State) (v : Word) (h : s.Inv) : (s.push16 v).Inv := by
  rw [push16_eq]; exact set16_inv _ _ _ (write_inv _ _ _ (write_inv _ _ _ h))

theorem pop16_inv (s : State) (h : s.Inv) : s.pop16.2.Inv :=
  set16_inv _ _ _ (afterRead_inv _ _ (afterRead_inv _ _ h))

/-! ### The stack in the claims' words -/

theorem push16_pushed (s : State) (v : Word) : s.push16 v = s.pushed v := by
  have e : s.sp - 1 - 1 = s.sp - 2 := by bv_omega
  rw [push16_eq, e]; rfl

theorem pop16_popped (s : State) : s.pop16 = (s.top, s.popped) := by
  have e : s.sp + 1 + 1 = s.sp + 2 := by bv_omega
  rw [pop16_eq, e]; rfl

/-! ### Operands -/

theorem resolve_control (s : State) (d : Dest8) : SameControl s (s.resolve d).2 := by
  unfold State.resolve
  split <;> first | exact .refl s | exact set16_control ..

theorem resolve_inv (s : State) (d : Dest8) (h : s.Inv) : (s.resolve d).2.Inv := by
  unfold State.resolve
  split <;> first | exact h | exact set16_inv _ _ _ h

/-- Resolving an operand stores nothing. -/
@[simp] theorem resolve_bus (s : State) (d : Dest8) : (s.resolve d).2.bus = s.bus := by
  unfold State.resolve State.incPair State.decPair
  split <;> simp

@[simp] theorem resolve_busLog (s : State) (d : Dest8) : (s.resolve d).2.busLog = s.busLog := by
  unfold State.resolve State.incPair State.decPair
  split <;> simp

@[simp] theorem resolve_mem (s : State) (d : Dest8) : (s.resolve d).2.mem = s.mem := by
  unfold State.resolve State.incPair State.decPair
  split <;> simp

theorem resolve_quiet (a : Word) (s : State) (d : Dest8) : Quiet a s (s.resolve d).2 := .of_eq (resolve_bus ..) (resolve_busLog ..) (resolve_mem ..)

theorem touchPlace_control (s : State) (p : Place) : SameControl s (s.touchPlace p) := by
  cases p
  · exact .refl s
  · exact afterRead_control ..

theorem touchPlace_inv (s : State) (p : Place) (h : s.Inv) : (s.touchPlace p).Inv := by
  cases p
  · exact h
  · exact afterRead_inv _ _ h

theorem touchPlace_quiet (a : Word) (s : State) (p : Place) : Quiet a s (s.touchPlace p) := by
  cases p
  · exact .refl a s
  · exact afterRead_quiet ..

@[simp] theorem touchPlace_reg8 (s : State) (p : Place) (r : Reg8) : (s.touchPlace p).reg8 r = s.reg8 r := by
  cases p <;> cases r <;> rfl

@[simp] theorem touchPlace_get16 (s : State) (p : Place) (r : Reg16) : (s.touchPlace p).get16 r = s.get16 r := by
  cases p <;> cases r <;> rfl

@[simp] theorem touchPlace_f (s : State) (p : Place) : (s.touchPlace p).f = s.f := by cases p <;> rfl

@[simp] theorem touchPlace_sp (s : State) (p : Place) : (s.touchPlace p).sp = s.sp := by cases p <;> rfl

@[simp] theorem touchPlace_pc (s : State) (p : Place) : (s.touchPlace p).pc = s.pc := by cases p <;> rfl

theorem readSrc_control (s : State) (o : Src8) : SameControl s (s.readSrc o).2 := by
  cases o
  · exact .refl s
  · exact (resolve_control ..).trans (touchPlace_control ..)

theorem readSrc_inv (s : State) (o : Src8) (h : s.Inv) : (s.readSrc o).2.Inv := by
  cases o
  · exact h
  · exact touchPlace_inv _ _ (resolve_inv _ _ h)

theorem readSrc_quiet (a : Word) (s : State) (o : Src8) : Quiet a s (s.readSrc o).2 := by
  cases o
  · exact .refl a s
  · exact (resolve_quiet ..).trans (touchPlace_quiet ..)

theorem writePlace_control (s : State) (p : Place) (v : Byte) : SameControl s (s.writePlace p v) := by
  cases p
  · exact set8_control ..
  · exact write_control ..

theorem writePlace_inv (s : State) (p : Place) (v : Byte) (h : s.Inv) : (s.writePlace p v).Inv := by
  cases p
  · exact set8_inv _ _ _ h
  · exact write_inv _ _ _ h

/-- A write to a place changes the byte of memory it names, if it names one, and no other. -/
theorem writePlace_quiet (a : Word) (s : State) (p : Place) (v : Byte) (ha : p ≠ .byteAt a) : Quiet a s (s.writePlace p v) := by
  cases p with
  | cell r => exact .of_eq (set8_bus ..) (set8_busLog ..) (set8_mem ..)
  | byteAt q => exact write_quiet a s q v (by rintro rfl; exact ha rfl)

/-! ### Shapes of the families -/

theorem load8_control (s : State) (n : Word) (d : Dest8) (o : Src8) : SameControl s (s.load8 n d o) :=
  (readSrc_control s o).trans ((resolve_control _ d).trans ((writePlace_control ..).trans (advance_control ..)))

theorem load8_inv (s : State) (n : Word) (d : Dest8) (o : Src8) (h : s.Inv) : (s.load8 n d o).Inv :=
  advance_inv _ _ (writePlace_inv _ _ _ (resolve_inv _ _ (readSrc_inv _ _ h)))

theorem modify8_control (s : State) (n : Word) (d : Dest8) (g : Byte → Bool → ByteOut) : SameControl s (s.modify8 n d g) :=
  (resolve_control s d).trans ((touchPlace_control ..).trans ((writePlace_control ..).trans
    ((setFlags_control ..).trans (advance_control ..))))

theorem modify8_inv (s : State) (n : Word) (d : Dest8) (g : Byte → Bool → ByteOut) (h : s.Inv) : (s.modify8 n d g).Inv :=
  advance_inv _ _ (setFlags_inv _ _ _ _ _ (writePlace_inv _ _ _ (touchPlace_inv _ _ (resolve_inv _ _ h))))

theorem rewrite8_control (s : State) (n : Word) (d : Dest8) (g : Byte → Byte) : SameControl s (s.rewrite8 n d g) :=
  (resolve_control s d).trans ((touchPlace_control ..).trans ((writePlace_control ..).trans (advance_control ..)))

theorem rewrite8_inv (s : State) (n : Word) (d : Dest8) (g : Byte → Byte) (h : s.Inv) : (s.rewrite8 n d g).Inv :=
  advance_inv _ _ (writePlace_inv _ _ _ (touchPlace_inv _ _ (resolve_inv _ _ h)))

theorem alu_control (s : State) (n : Word) (op : AluOp) (o : Src8) : SameControl s (s.alu n op o) :=
  (readSrc_control s o).trans ((set8_control ..).trans ((setFlags_control ..).trans (advance_control ..)))

theorem alu_inv (s : State) (n : Word) (op : AluOp) (o : Src8) (h : s.Inv) : (s.alu n op o).Inv :=
  advance_inv _ _ (setFlags_inv _ _ _ _ _ (set8_inv _ _ _ (readSrc_inv _ _ h)))

theorem testBit_control (s : State) (n : Word) (k : Oct) (d : Dest8) : SameControl s (s.testBit n k d) :=
  (resolve_control s d).trans ((touchPlace_control ..).trans ((setFlags_control ..).trans (advance_control ..)))

theorem testBit_inv (s : State) (n : Word) (k : Oct) (d : Dest8) (h : s.Inv) : (s.testBit n k d).Inv :=
  advance_inv _ _ (setFlags_inv _ _ _ _ _ (touchPlace_inv _ _ (resolve_inv _ _ h)))

theorem rotA_control (s : State) (n : Word) (op : RotOp) : SameControl s (s.rotA n op) :=
  (set8_control ..).trans ((setFlags_control ..).trans (advance_control ..))

theorem rotA_inv (s : State) (n : Word) (op : RotOp) (h : s.Inv) : (s.rotA n op).Inv :=
  advance_inv _ _ (setFlags_inv _ _ _ _ _ (set8_inv _ _ _ h))

theorem load16_control (s : State) (n : Word) (p : Reg16) (v : Word) : SameControl s (s.load16 n p v) :=
  (set16_control ..).trans (advance_control ..)

theorem load16_inv (s : State) (n : Word) (p : Reg16) (v : Word) (h : s.Inv) : (s.load16 n p v).Inv :=
  advance_inv _ _ (set16_inv _ _ _ h)

theorem addHL_control (s : State) (n : Word) (p : Reg16) : SameControl s (s.addHL n p) :=
  (set16_control ..).trans ((setFlags_control ..).trans (advance_control ..))

theorem addHL_inv (s : State) (n : Word) (p : Reg16) (h : s.Inv) : (s.addHL n p).Inv :=
  advance_inv _ _ (setFlags_inv _ _ _ _ _ (set16_inv _ _ _ h))

theorem addSp_control (s : State) (n : Word) (p : Reg16) (e : Byte) : SameControl s (s.addSp n p e) :=
  (set16_control ..).trans ((setFlags_control ..).trans (advance_control ..))

theorem addSp_inv (s : State) (n : Word) (p : Reg16) (e : Byte) (h : s.Inv) : (s.addSp n p e).Inv :=
  advance_inv _ _ (setFlags_inv _ _ _ _ _ (set16_inv _ _ _ h))

theorem whenCond_control (s : State) (cc : Cond) (n : Word) (t : State) (h : SameControl s t) :
    SameControl s (s.whenCond cc n t) := by
  unfold State.whenCond
  split
  · exact h
  · exact advance_control ..

theorem whenCond_inv (s : State) (cc : Cond) (n : Word) (t : State) (h : s.Inv) (ht : t.Inv) : (s.whenCond cc n t).Inv := by
  unfold State.whenCond
  split
  · exact ht
  · exact advance_inv _ _ h

theorem jumpRel_control (s : State) (n : Word) (e : Byte) : SameControl s (s.jumpRel n e) := jumpTo_control ..

theorem jumpRel_inv (s : State) (n : Word) (e : Byte) (h : s.Inv) : (s.jumpRel n e).Inv := jumpTo_inv _ _ h

theorem callTo_control (s : State) (n t : Word) : SameControl s (s.callTo n t) :=
  (push16_control ..).trans (jumpTo_control ..)

theorem callTo_inv (s : State) (n t : Word) (h : s.Inv) : (s.callTo n t).Inv := jumpTo_inv _ _ (push16_inv _ _ h)

theorem returnPop_control (s : State) : SameControl s s.returnPop := (pop16_control s).trans (jumpTo_control ..)

theorem returnPop_inv (s : State) (h : s.Inv) : s.returnPop.Inv := jumpTo_inv _ _ (pop16_inv _ h)

theorem pushPair_control (s : State) (n : Word) (p : Reg16) : SameControl s (s.pushPair n p) :=
  (push16_control ..).trans (advance_control ..)

theorem pushPair_inv (s : State) (n : Word) (p : Reg16) (h : s.Inv) : (s.pushPair n p).Inv :=
  advance_inv _ _ (push16_inv _ _ h)

theorem popPair_control (s : State) (n : Word) (p : Reg16) : SameControl s (s.popPair n p) :=
  (pop16_control s).trans ((set16_control ..).trans (advance_control ..))

theorem popPair_inv (s : State) (n : Word) (p : Reg16) (h : s.Inv) : (s.popPair n p).Inv :=
  advance_inv _ _ (set16_inv _ _ _ (pop16_inv _ h))

theorem adjustA_control (s : State) (n : Word) : SameControl s (s.adjustA n) :=
  (set8_control ..).trans ((setFlags_control ..).trans (advance_control ..))

theorem adjustA_inv (s : State) (n : Word) (h : s.Inv) : (s.adjustA n).Inv :=
  advance_inv _ _ (setFlags_inv _ _ _ _ _ (set8_inv _ _ _ h))

theorem write16_control (s : State) (a v : Word) : SameControl s (s.write16 a v) :=
  (write_control ..).trans (write_control ..)

theorem write16_inv (s : State) (a v : Word) (h : s.Inv) : (s.write16 a v).Inv := write_inv _ _ _ (write_inv _ _ _ h)

theorem prefixed_control (s : State) (b : Byte) : SameControl s (s.prefixed b) := by
  unfold State.prefixed
  split <;> first | exact modify8_control .. | exact testBit_control .. | exact rewrite8_control ..

theorem prefixed_inv (s : State) (b : Byte) (h : s.Inv) : (s.prefixed b).Inv := by
  unfold State.prefixed
  split <;> first | exact modify8_inv _ _ _ _ h | exact testBit_inv _ _ _ _ h | exact rewrite8_inv _ _ _ _ h

theorem dispatchIrq_inv (s : State) (n : IrqLine) (h : s.Inv) : (s.dispatchIrq n).Inv :=
  jumpTo_inv _ _ (push16_inv _ _ h)

theorem returnIrq_inv (s : State) (h : s.Inv) : s.returnIrq.Inv := pop16_inv s h

theorem fetch_inv (s : State) (h : s.Inv) : s.fetch.2.Inv := by
  unfold State.fetch
  dsimp only
  split
  · exact afterRead_inv _ _ h
  · exact afterRead_inv _ _ (afterRead_inv _ _ h)
  · exact afterRead_inv _ _ (afterRead_inv _ _ (afterRead_inv _ _ h))

theorem fetch_control (s : State) : SameControl s s.fetch.2 := by
  unfold State.fetch
  dsimp only
  split
  · exact afterRead_control ..
  · exact (afterRead_control ..).trans (afterRead_control ..)
  · exact (afterRead_control ..).trans ((afterRead_control ..).trans (afterRead_control ..))

theorem recordFault_inv (s : State) (k : FaultKind) (v : Byte) (h : s.Inv) : (s.recordFault k v).Inv := h

theorem wake_inv (s : State) (h : s.Inv) : s.wake.Inv := h

theorem nextInput_inv (s : State) (h : s.Inv) : s.nextInput.Inv := h

theorem promoteEi_inv (s : State) (h : s.Inv) : s.promoteEi.Inv := by
  unfold State.promoteEi
  split <;> exact h

theorem commit_inv (s t : State) (hs : s.Inv) (ht : t.Inv) : (s.commit t).Inv := by
  unfold State.commit
  split
  · exact ht
  · exact hs

end Sys2Proof.Laws
end

