-- ==== Sys2Proof/Laws/Shape.lean ====
section
/-! SUPPORT. What `exec` can do, said once: the shared operation each instruction is, and that `exec` answers a next state by it. A
claim over all instructions is a claim over the shapes. -/

namespace Sys2Proof.Laws

open Sys2Proof.Machine

/-- The operations the 512 instructions are instances of. -/
inductive Shape where
  | load8 (n : Word) (d : Dest8) (o : Src8)
  | modify8 (n : Word) (d : Dest8) (g : Byte → Bool → ByteOut)
  | rewrite8 (n : Word) (d : Dest8) (g : Byte → Byte)
  | alu (n : Word) (op : AluOp) (o : Src8)
  | testBit (n : Word) (k : Oct) (d : Dest8)
  | rotA (n : Word) (op : RotOp)
  | setPair (p : Reg16) (v : Word)
  | copyHL
  | incPair (p : Reg16)
  | decPair (p : Reg16)
  | storeSP (a : Word)
  | addHL (p : Reg16)
  | addSp (p : Reg16) (e : Byte)
  | jumpRel (e : Byte)
  | jumpRelIf (cc : Cond) (e : Byte)
  | jump (a : Word)
  | jumpIf (cc : Cond) (a : Word)
  | jumpHL
  | call (n : Word) (a : Word)
  | callIf (cc : Cond) (a : Word)
  | ret
  | retIf (cc : Cond)
  | reti
  | push (p : Reg16)
  | pop (p : Reg16)
  | nop
  | halt
  | stop
  | di
  | ei
  | daa
  | cpl
  | scf
  | ccf
  | illegal (v : Byte)
  | prefixed (b : Byte)

/-- The state a shape leaves. -/
def Shape.run (k : Shape) (s : State) : State :=
  match k with
  | .load8 n d o => s.load8 n d o
  | .modify8 n d g => s.modify8 n d g
  | .rewrite8 n d g => s.rewrite8 n d g
  | .alu n op o => s.alu n op o
  | .testBit n k d => s.testBit n k d
  | .rotA n op => s.rotA n op
  | .setPair p v => s.load16 3 p v
  | .copyHL => s.load16 1 .SP (s.get16 .HL)
  | .incPair p => s.load16 1 p (s.get16 p + 1)
  | .decPair p => s.load16 1 p (s.get16 p - 1)
  | .storeSP a => (s.write16 a s.sp).advance 3
  | .addHL p => s.addHL 1 p
  | .addSp p e => s.addSp 2 p e
  | .jumpRel e => s.jumpRel 2 e
  | .jumpRelIf cc e => s.whenCond cc 2 (s.jumpRel 2 e)
  | .jump a => s.jumpTo a
  | .jumpIf cc a => s.whenCond cc 3 (s.jumpTo a)
  | .jumpHL => s.jumpTo (s.get16 .HL)
  | .call n a => s.callTo n a
  | .callIf cc a => s.whenCond cc 3 (s.callTo 3 a)
  | .ret => s.returnPop
  | .retIf cc => s.whenCond cc 1 s.returnPop
  | .reti => s.returnIrq
  | .push p => s.pushPair 1 p
  | .pop p => s.popPair 1 p
  | .nop => s.advance 1
  | .halt => if !s.ime && s.irqPending.isSome then s.recordFault .haltBug 0x76 else { s with mode := .halted }.advance 1
  | .stop => { s with mode := .stopped }.advance 2
  | .di => { s with ime := false, eiPending := false }.advance 1
  | .ei => { s with eiPending := true }.advance 1
  | .daa => s.adjustA 1
  | .cpl => ((s.set8 .A (s.a ^^^ 0xFF)).setFlags s.flagZ true true s.flagC).advance 1
  | .scf => (s.setFlags s.flagZ false false true).advance 1
  | .ccf => (s.setFlags s.flagZ false false (!s.flagC)).advance 1
  | .illegal v => s.recordFault .illegalOpcode v
  | .prefixed b => s.prefixed b

/-- The shape of an instruction. -/
def shapeOf (i : Instr) : Shape :=
  match i with
  | .nop => .nop
  | .ld_BC_d16 d16 => .setPair .BC d16
  | .ld_mBC_A => .load8 1 (.ind .BC .plain) (.loc (.reg .A))
  | .inc_BC => .incPair .BC
  | .inc_B => .modify8 1 (.reg .B) incByte
  | .dec_B => .modify8 1 (.reg .B) decByte
  | .ld_B_d8 d8 => .load8 2 (.reg .B) (.imm d8)
  | .rlca => .rotA 1 .RLC
  | .ld_ma16_SP a16 => .storeSP a16
  | .add_HL_BC => .addHL .BC
  | .ld_A_mBC => .load8 1 (.reg .A) (.loc (.ind .BC .plain))
  | .dec_BC => .decPair .BC
  | .inc_C => .modify8 1 (.reg .C) incByte
  | .dec_C => .modify8 1 (.reg .C) decByte
  | .ld_C_d8 d8 => .load8 2 (.reg .C) (.imm d8)
  | .rrca => .rotA 1 .RRC
  | .stop _ => .stop
  | .ld_DE_d16 d16 => .setPair .DE d16
  | .ld_mDE_A => .load8 1 (.ind .DE .plain) (.loc (.reg .A))
  | .inc_DE => .incPair .DE
  | .inc_D => .modify8 1 (.reg .D) incByte
  | .dec_D => .modify8 1 (.reg .D) decByte
  | .ld_D_d8 d8 => .load8 2 (.reg .D) (.imm d8)
  | .rla => .rotA 1 .RL
  | .jr e8 => .jumpRel e8
  | .add_HL_DE => .addHL .DE
  | .ld_A_mDE => .load8 1 (.reg .A) (.loc (.ind .DE .plain))
  | .dec_DE => .decPair .DE
  | .inc_E => .modify8 1 (.reg .E) incByte
  | .dec_E => .modify8 1 (.reg .E) decByte
  | .ld_E_d8 d8 => .load8 2 (.reg .E) (.imm d8)
  | .rra => .rotA 1 .RR
  | .jr_NZ e8 => .jumpRelIf condNZ e8
  | .ld_HL_d16 d16 => .setPair .HL d16
  | .ld_mHLi_A => .load8 1 (.ind .HL .postInc) (.loc (.reg .A))
  | .inc_HL => .incPair .HL
  | .inc_H => .modify8 1 (.reg .H) incByte
  | .dec_H => .modify8 1 (.reg .H) decByte
  | .ld_H_d8 d8 => .load8 2 (.reg .H) (.imm d8)
  | .daa => .daa
  | .jr_Z e8 => .jumpRelIf condZ e8
  | .add_HL_HL => .addHL .HL
  | .ld_A_mHLi => .load8 1 (.reg .A) (.loc (.ind .HL .postInc))
  | .dec_HL => .decPair .HL
  | .inc_L => .modify8 1 (.reg .L) incByte
  | .dec_L => .modify8 1 (.reg .L) decByte
  | .ld_L_d8 d8 => .load8 2 (.reg .L) (.imm d8)
  | .cpl => .cpl
  | .jr_NC e8 => .jumpRelIf condNC e8
  | .ld_SP_d16 d16 => .setPair .SP d16
  | .ld_mHLd_A => .load8 1 (.ind .HL .postDec) (.loc (.reg .A))
  | .inc_SP => .incPair .SP
  | .inc_mHL => .modify8 1 atHL incByte
  | .dec_mHL => .modify8 1 atHL decByte
  | .ld_mHL_d8 d8 => .load8 2 atHL (.imm d8)
  | .scf => .scf
  | .jr_C e8 => .jumpRelIf condC e8
  | .add_HL_SP => .addHL .SP
  | .ld_A_mHLd => .load8 1 (.reg .A) (.loc (.ind .HL .postDec))
  | .dec_SP => .decPair .SP
  | .inc_A => .modify8 1 (.reg .A) incByte
  | .dec_A => .modify8 1 (.reg .A) decByte
  | .ld_A_d8 d8 => .load8 2 (.reg .A) (.imm d8)
  | .ccf => .ccf
  | .ld_B_B => .load8 1 (.reg .B) (.loc (.reg .B))
  | .ld_B_C => .load8 1 (.reg .B) (.loc (.reg .C))
  | .ld_B_D => .load8 1 (.reg .B) (.loc (.reg .D))
  | .ld_B_E => .load8 1 (.reg .B) (.loc (.reg .E))
  | .ld_B_H => .load8 1 (.reg .B) (.loc (.reg .H))
  | .ld_B_L => .load8 1 (.reg .B) (.loc (.reg .L))
  | .ld_B_mHL => .load8 1 (.reg .B) (.loc atHL)
  | .ld_B_A => .load8 1 (.reg .B) (.loc (.reg .A))
  | .ld_C_B => .load8 1 (.reg .C) (.loc (.reg .B))
  | .ld_C_C => .load8 1 (.reg .C) (.loc (.reg .C))
  | .ld_C_D => .load8 1 (.reg .C) (.loc (.reg .D))
  | .ld_C_E => .load8 1 (.reg .C) (.loc (.reg .E))
  | .ld_C_H => .load8 1 (.reg .C) (.loc (.reg .H))
  | .ld_C_L => .load8 1 (.reg .C) (.loc (.reg .L))
  | .ld_C_mHL => .load8 1 (.reg .C) (.loc atHL)
  | .ld_C_A => .load8 1 (.reg .C) (.loc (.reg .A))
  | .ld_D_B => .load8 1 (.reg .D) (.loc (.reg .B))
  | .ld_D_C => .load8 1 (.reg .D) (.loc (.reg .C))
  | .ld_D_D => .load8 1 (.reg .D) (.loc (.reg .D))
  | .ld_D_E => .load8 1 (.reg .D) (.loc (.reg .E))
  | .ld_D_H => .load8 1 (.reg .D) (.loc (.reg .H))
  | .ld_D_L => .load8 1 (.reg .D) (.loc (.reg .L))
  | .ld_D_mHL => .load8 1 (.reg .D) (.loc atHL)
  | .ld_D_A => .load8 1 (.reg .D) (.loc (.reg .A))
  | .ld_E_B => .load8 1 (.reg .E) (.loc (.reg .B))
  | .ld_E_C => .load8 1 (.reg .E) (.loc (.reg .C))
  | .ld_E_D => .load8 1 (.reg .E) (.loc (.reg .D))
  | .ld_E_E => .load8 1 (.reg .E) (.loc (.reg .E))
  | .ld_E_H => .load8 1 (.reg .E) (.loc (.reg .H))
  | .ld_E_L => .load8 1 (.reg .E) (.loc (.reg .L))
  | .ld_E_mHL => .load8 1 (.reg .E) (.loc atHL)
  | .ld_E_A => .load8 1 (.reg .E) (.loc (.reg .A))
  | .ld_H_B => .load8 1 (.reg .H) (.loc (.reg .B))
  | .ld_H_C => .load8 1 (.reg .H) (.loc (.reg .C))
  | .ld_H_D => .load8 1 (.reg .H) (.loc (.reg .D))
  | .ld_H_E => .load8 1 (.reg .H) (.loc (.reg .E))
  | .ld_H_H => .load8 1 (.reg .H) (.loc (.reg .H))
  | .ld_H_L => .load8 1 (.reg .H) (.loc (.reg .L))
  | .ld_H_mHL => .load8 1 (.reg .H) (.loc atHL)
  | .ld_H_A => .load8 1 (.reg .H) (.loc (.reg .A))
  | .ld_L_B => .load8 1 (.reg .L) (.loc (.reg .B))
  | .ld_L_C => .load8 1 (.reg .L) (.loc (.reg .C))
  | .ld_L_D => .load8 1 (.reg .L) (.loc (.reg .D))
  | .ld_L_E => .load8 1 (.reg .L) (.loc (.reg .E))
  | .ld_L_H => .load8 1 (.reg .L) (.loc (.reg .H))
  | .ld_L_L => .load8 1 (.reg .L) (.loc (.reg .L))
  | .ld_L_mHL => .load8 1 (.reg .L) (.loc atHL)
  | .ld_L_A => .load8 1 (.reg .L) (.loc (.reg .A))
  | .ld_mHL_B => .load8 1 atHL (.loc (.reg .B))
  | .ld_mHL_C => .load8 1 atHL (.loc (.reg .C))
  | .ld_mHL_D => .load8 1 atHL (.loc (.reg .D))
  | .ld_mHL_E => .load8 1 atHL (.loc (.reg .E))
  | .ld_mHL_H => .load8 1 atHL (.loc (.reg .H))
  | .ld_mHL_L => .load8 1 atHL (.loc (.reg .L))
  | .halt => .halt
  | .ld_mHL_A => .load8 1 atHL (.loc (.reg .A))
  | .ld_A_B => .load8 1 (.reg .A) (.loc (.reg .B))
  | .ld_A_C => .load8 1 (.reg .A) (.loc (.reg .C))
  | .ld_A_D => .load8 1 (.reg .A) (.loc (.reg .D))
  | .ld_A_E => .load8 1 (.reg .A) (.loc (.reg .E))
  | .ld_A_H => .load8 1 (.reg .A) (.loc (.reg .H))
  | .ld_A_L => .load8 1 (.reg .A) (.loc (.reg .L))
  | .ld_A_mHL => .load8 1 (.reg .A) (.loc atHL)
  | .ld_A_A => .load8 1 (.reg .A) (.loc (.reg .A))
  | .add_A_B => .alu 1 .ADD (.loc (.reg .B))
  | .add_A_C => .alu 1 .ADD (.loc (.reg .C))
  | .add_A_D => .alu 1 .ADD (.loc (.reg .D))
  | .add_A_E => .alu 1 .ADD (.loc (.reg .E))
  | .add_A_H => .alu 1 .ADD (.loc (.reg .H))
  | .add_A_L => .alu 1 .ADD (.loc (.reg .L))
  | .add_A_mHL => .alu 1 .ADD (.loc atHL)
  | .add_A_A => .alu 1 .ADD (.loc (.reg .A))
  | .adc_A_B => .alu 1 .ADC (.loc (.reg .B))
  | .adc_A_C => .alu 1 .ADC (.loc (.reg .C))
  | .adc_A_D => .alu 1 .ADC (.loc (.reg .D))
  | .adc_A_E => .alu 1 .ADC (.loc (.reg .E))
  | .adc_A_H => .alu 1 .ADC (.loc (.reg .H))
  | .adc_A_L => .alu 1 .ADC (.loc (.reg .L))
  | .adc_A_mHL => .alu 1 .ADC (.loc atHL)
  | .adc_A_A => .alu 1 .ADC (.loc (.reg .A))
  | .sub_B => .alu 1 .SUB (.loc (.reg .B))
  | .sub_C => .alu 1 .SUB (.loc (.reg .C))
  | .sub_D => .alu 1 .SUB (.loc (.reg .D))
  | .sub_E => .alu 1 .SUB (.loc (.reg .E))
  | .sub_H => .alu 1 .SUB (.loc (.reg .H))
  | .sub_L => .alu 1 .SUB (.loc (.reg .L))
  | .sub_mHL => .alu 1 .SUB (.loc atHL)
  | .sub_A => .alu 1 .SUB (.loc (.reg .A))
  | .sbc_A_B => .alu 1 .SBC (.loc (.reg .B))
  | .sbc_A_C => .alu 1 .SBC (.loc (.reg .C))
  | .sbc_A_D => .alu 1 .SBC (.loc (.reg .D))
  | .sbc_A_E => .alu 1 .SBC (.loc (.reg .E))
  | .sbc_A_H => .alu 1 .SBC (.loc (.reg .H))
  | .sbc_A_L => .alu 1 .SBC (.loc (.reg .L))
  | .sbc_A_mHL => .alu 1 .SBC (.loc atHL)
  | .sbc_A_A => .alu 1 .SBC (.loc (.reg .A))
  | .and_B => .alu 1 .AND (.loc (.reg .B))
  | .and_C => .alu 1 .AND (.loc (.reg .C))
  | .and_D => .alu 1 .AND (.loc (.reg .D))
  | .and_E => .alu 1 .AND (.loc (.reg .E))
  | .and_H => .alu 1 .AND (.loc (.reg .H))
  | .and_L => .alu 1 .AND (.loc (.reg .L))
  | .and_mHL => .alu 1 .AND (.loc atHL)
  | .and_A => .alu 1 .AND (.loc (.reg .A))
  | .xor_B => .alu 1 .XOR (.loc (.reg .B))
  | .xor_C => .alu 1 .XOR (.loc (.reg .C))
  | .xor_D => .alu 1 .XOR (.loc (.reg .D))
  | .xor_E => .alu 1 .XOR (.loc (.reg .E))
  | .xor_H => .alu 1 .XOR (.loc (.reg .H))
  | .xor_L => .alu 1 .XOR (.loc (.reg .L))
  | .xor_mHL => .alu 1 .XOR (.loc atHL)
  | .xor_A => .alu 1 .XOR (.loc (.reg .A))
  | .or_B => .alu 1 .OR (.loc (.reg .B))
  | .or_C => .alu 1 .OR (.loc (.reg .C))
  | .or_D => .alu 1 .OR (.loc (.reg .D))
  | .or_E => .alu 1 .OR (.loc (.reg .E))
  | .or_H => .alu 1 .OR (.loc (.reg .H))
  | .or_L => .alu 1 .OR (.loc (.reg .L))
  | .or_mHL => .alu 1 .OR (.loc atHL)
  | .or_A => .alu 1 .OR (.loc (.reg .A))
  | .cp_B => .alu 1 .CP (.loc (.reg .B))
  | .cp_C => .alu 1 .CP (.loc (.reg .C))
  | .cp_D => .alu 1 .CP (.loc (.reg .D))
  | .cp_E => .alu 1 .CP (.loc (.reg .E))
  | .cp_H => .alu 1 .CP (.loc (.reg .H))
  | .cp_L => .alu 1 .CP (.loc (.reg .L))
  | .cp_mHL => .alu 1 .CP (.loc atHL)
  | .cp_A => .alu 1 .CP (.loc (.reg .A))
  | .ret_NZ => .retIf condNZ
  | .pop_BC => .pop .BC
  | .jp_NZ a16 => .jumpIf condNZ a16
  | .jp a16 => .jump a16
  | .call_NZ a16 => .callIf condNZ a16
  | .push_BC => .push .BC
  | .add_A_d8 d8 => .alu 2 .ADD (.imm d8)
  | .rst_00 => .call 1 0x00
  | .ret_Z => .retIf condZ
  | .ret => .ret
  | .jp_Z a16 => .jumpIf condZ a16
  | .prefix_CB b => .prefixed b
  | .call_Z a16 => .callIf condZ a16
  | .call a16 => .call 3 a16
  | .adc_A_d8 d8 => .alu 2 .ADC (.imm d8)
  | .rst_08 => .call 1 0x08
  | .ret_NC => .retIf condNC
  | .pop_DE => .pop .DE
  | .jp_NC a16 => .jumpIf condNC a16
  | .unused_D3 => .illegal 0xD3
  | .call_NC a16 => .callIf condNC a16
  | .push_DE => .push .DE
  | .sub_d8 d8 => .alu 2 .SUB (.imm d8)
  | .rst_10 => .call 1 0x10
  | .ret_C => .retIf condC
  | .reti => .reti
  | .jp_C a16 => .jumpIf condC a16
  | .unused_DB => .illegal 0xDB
  | .call_C a16 => .callIf condC a16
  | .unused_DD => .illegal 0xDD
  | .sbc_A_d8 d8 => .alu 2 .SBC (.imm d8)
  | .rst_18 => .call 1 0x18
  | .ldh_ma8_A a8 => .load8 2 (.highImm a8) (.loc (.reg .A))
  | .pop_HL => .pop .HL
  | .ld_mC_A => .load8 1 .highC (.loc (.reg .A))
  | .unused_E3 => .illegal 0xE3
  | .unused_E4 => .illegal 0xE4
  | .push_HL => .push .HL
  | .and_d8 d8 => .alu 2 .AND (.imm d8)
  | .rst_20 => .call 1 0x20
  | .add_SP_e8 e8 => .addSp .SP e8
  | .jp_HL => .jumpHL
  | .ld_ma16_A a16 => .load8 3 (.abs a16) (.loc (.reg .A))
  | .unused_EB => .illegal 0xEB
  | .unused_EC => .illegal 0xEC
  | .unused_ED => .illegal 0xED
  | .xor_d8 d8 => .alu 2 .XOR (.imm d8)
  | .rst_28 => .call 1 0x28
  | .ldh_A_ma8 a8 => .load8 2 (.reg .A) (.loc (.highImm a8))
  | .pop_AF => .pop .AF
  | .ld_A_mC => .load8 1 (.reg .A) (.loc .highC)
  | .di => .di
  | .unused_F4 => .illegal 0xF4
  | .push_AF => .push .AF
  | .or_d8 d8 => .alu 2 .OR (.imm d8)
  | .rst_30 => .call 1 0x30
  | .ld_HL_SPe8 e8 => .addSp .HL e8
  | .ld_SP_HL => .copyHL
  | .ld_A_ma16 a16 => .load8 3 (.reg .A) (.loc (.abs a16))
  | .ei => .ei
  | .unused_FC => .illegal 0xFC
  | .unused_FD => .illegal 0xFD
  | .cp_d8 d8 => .alu 2 .CP (.imm d8)
  | .rst_38 => .call 1 0x38
  | .rlc_B => .modify8 2 (.reg .B) (rotByte .RLC)
  | .rlc_C => .modify8 2 (.reg .C) (rotByte .RLC)
  | .rlc_D => .modify8 2 (.reg .D) (rotByte .RLC)
  | .rlc_E => .modify8 2 (.reg .E) (rotByte .RLC)
  | .rlc_H => .modify8 2 (.reg .H) (rotByte .RLC)
  | .rlc_L => .modify8 2 (.reg .L) (rotByte .RLC)
  | .rlc_mHL => .modify8 2 atHL (rotByte .RLC)
  | .rlc_A => .modify8 2 (.reg .A) (rotByte .RLC)
  | .rrc_B => .modify8 2 (.reg .B) (rotByte .RRC)
  | .rrc_C => .modify8 2 (.reg .C) (rotByte .RRC)
  | .rrc_D => .modify8 2 (.reg .D) (rotByte .RRC)
  | .rrc_E => .modify8 2 (.reg .E) (rotByte .RRC)
  | .rrc_H => .modify8 2 (.reg .H) (rotByte .RRC)
  | .rrc_L => .modify8 2 (.reg .L) (rotByte .RRC)
  | .rrc_mHL => .modify8 2 atHL (rotByte .RRC)
  | .rrc_A => .modify8 2 (.reg .A) (rotByte .RRC)
  | .rl_B => .modify8 2 (.reg .B) (rotByte .RL)
  | .rl_C => .modify8 2 (.reg .C) (rotByte .RL)
  | .rl_D => .modify8 2 (.reg .D) (rotByte .RL)
  | .rl_E => .modify8 2 (.reg .E) (rotByte .RL)
  | .rl_H => .modify8 2 (.reg .H) (rotByte .RL)
  | .rl_L => .modify8 2 (.reg .L) (rotByte .RL)
  | .rl_mHL => .modify8 2 atHL (rotByte .RL)
  | .rl_A => .modify8 2 (.reg .A) (rotByte .RL)
  | .rr_B => .modify8 2 (.reg .B) (rotByte .RR)
  | .rr_C => .modify8 2 (.reg .C) (rotByte .RR)
  | .rr_D => .modify8 2 (.reg .D) (rotByte .RR)
  | .rr_E => .modify8 2 (.reg .E) (rotByte .RR)
  | .rr_H => .modify8 2 (.reg .H) (rotByte .RR)
  | .rr_L => .modify8 2 (.reg .L) (rotByte .RR)
  | .rr_mHL => .modify8 2 atHL (rotByte .RR)
  | .rr_A => .modify8 2 (.reg .A) (rotByte .RR)
  | .sla_B => .modify8 2 (.reg .B) (rotByte .SLA)
  | .sla_C => .modify8 2 (.reg .C) (rotByte .SLA)
  | .sla_D => .modify8 2 (.reg .D) (rotByte .SLA)
  | .sla_E => .modify8 2 (.reg .E) (rotByte .SLA)
  | .sla_H => .modify8 2 (.reg .H) (rotByte .SLA)
  | .sla_L => .modify8 2 (.reg .L) (rotByte .SLA)
  | .sla_mHL => .modify8 2 atHL (rotByte .SLA)
  | .sla_A => .modify8 2 (.reg .A) (rotByte .SLA)
  | .sra_B => .modify8 2 (.reg .B) (rotByte .SRA)
  | .sra_C => .modify8 2 (.reg .C) (rotByte .SRA)
  | .sra_D => .modify8 2 (.reg .D) (rotByte .SRA)
  | .sra_E => .modify8 2 (.reg .E) (rotByte .SRA)
  | .sra_H => .modify8 2 (.reg .H) (rotByte .SRA)
  | .sra_L => .modify8 2 (.reg .L) (rotByte .SRA)
  | .sra_mHL => .modify8 2 atHL (rotByte .SRA)
  | .sra_A => .modify8 2 (.reg .A) (rotByte .SRA)
  | .swap_B => .modify8 2 (.reg .B) (rotByte .SWAP)
  | .swap_C => .modify8 2 (.reg .C) (rotByte .SWAP)
  | .swap_D => .modify8 2 (.reg .D) (rotByte .SWAP)
  | .swap_E => .modify8 2 (.reg .E) (rotByte .SWAP)
  | .swap_H => .modify8 2 (.reg .H) (rotByte .SWAP)
  | .swap_L => .modify8 2 (.reg .L) (rotByte .SWAP)
  | .swap_mHL => .modify8 2 atHL (rotByte .SWAP)
  | .swap_A => .modify8 2 (.reg .A) (rotByte .SWAP)
  | .srl_B => .modify8 2 (.reg .B) (rotByte .SRL)
  | .srl_C => .modify8 2 (.reg .C) (rotByte .SRL)
  | .srl_D => .modify8 2 (.reg .D) (rotByte .SRL)
  | .srl_E => .modify8 2 (.reg .E) (rotByte .SRL)
  | .srl_H => .modify8 2 (.reg .H) (rotByte .SRL)
  | .srl_L => .modify8 2 (.reg .L) (rotByte .SRL)
  | .srl_mHL => .modify8 2 atHL (rotByte .SRL)
  | .srl_A => .modify8 2 (.reg .A) (rotByte .SRL)
  | .bit_0_B => .testBit 2 .o0 (.reg .B)
  | .bit_0_C => .testBit 2 .o0 (.reg .C)
  | .bit_0_D => .testBit 2 .o0 (.reg .D)
  | .bit_0_E => .testBit 2 .o0 (.reg .E)
  | .bit_0_H => .testBit 2 .o0 (.reg .H)
  | .bit_0_L => .testBit 2 .o0 (.reg .L)
  | .bit_0_mHL => .testBit 2 .o0 atHL
  | .bit_0_A => .testBit 2 .o0 (.reg .A)
  | .bit_1_B => .testBit 2 .o1 (.reg .B)
  | .bit_1_C => .testBit 2 .o1 (.reg .C)
  | .bit_1_D => .testBit 2 .o1 (.reg .D)
  | .bit_1_E => .testBit 2 .o1 (.reg .E)
  | .bit_1_H => .testBit 2 .o1 (.reg .H)
  | .bit_1_L => .testBit 2 .o1 (.reg .L)
  | .bit_1_mHL => .testBit 2 .o1 atHL
  | .bit_1_A => .testBit 2 .o1 (.reg .A)
  | .bit_2_B => .testBit 2 .o2 (.reg .B)
  | .bit_2_C => .testBit 2 .o2 (.reg .C)
  | .bit_2_D => .testBit 2 .o2 (.reg .D)
  | .bit_2_E => .testBit 2 .o2 (.reg .E)
  | .bit_2_H => .testBit 2 .o2 (.reg .H)
  | .bit_2_L => .testBit 2 .o2 (.reg .L)
  | .bit_2_mHL => .testBit 2 .o2 atHL
  | .bit_2_A => .testBit 2 .o2 (.reg .A)
  | .bit_3_B => .testBit 2 .o3 (.reg .B)
  | .bit_3_C => .testBit 2 .o3 (.reg .C)
  | .bit_3_D => .testBit 2 .o3 (.reg .D)
  | .bit_3_E => .testBit 2 .o3 (.reg .E)
  | .bit_3_H => .testBit 2 .o3 (.reg .H)
  | .bit_3_L => .testBit 2 .o3 (.reg .L)
  | .bit_3_mHL => .testBit 2 .o3 atHL
  | .bit_3_A => .testBit 2 .o3 (.reg .A)
  | .bit_4_B => .testBit 2 .o4 (.reg .B)
  | .bit_4_C => .testBit 2 .o4 (.reg .C)
  | .bit_4_D => .testBit 2 .o4 (.reg .D)
  | .bit_4_E => .testBit 2 .o4 (.reg .E)
  | .bit_4_H => .testBit 2 .o4 (.reg .H)
  | .bit_4_L => .testBit 2 .o4 (.reg .L)
  | .bit_4_mHL => .testBit 2 .o4 atHL
  | .bit_4_A => .testBit 2 .o4 (.reg .A)
  | .bit_5_B => .testBit 2 .o5 (.reg .B)
  | .bit_5_C => .testBit 2 .o5 (.reg .C)
  | .bit_5_D => .testBit 2 .o5 (.reg .D)
  | .bit_5_E => .testBit 2 .o5 (.reg .E)
  | .bit_5_H => .testBit 2 .o5 (.reg .H)
  | .bit_5_L => .testBit 2 .o5 (.reg .L)
  | .bit_5_mHL => .testBit 2 .o5 atHL
  | .bit_5_A => .testBit 2 .o5 (.reg .A)
  | .bit_6_B => .testBit 2 .o6 (.reg .B)
  | .bit_6_C => .testBit 2 .o6 (.reg .C)
  | .bit_6_D => .testBit 2 .o6 (.reg .D)
  | .bit_6_E => .testBit 2 .o6 (.reg .E)
  | .bit_6_H => .testBit 2 .o6 (.reg .H)
  | .bit_6_L => .testBit 2 .o6 (.reg .L)
  | .bit_6_mHL => .testBit 2 .o6 atHL
  | .bit_6_A => .testBit 2 .o6 (.reg .A)
  | .bit_7_B => .testBit 2 .o7 (.reg .B)
  | .bit_7_C => .testBit 2 .o7 (.reg .C)
  | .bit_7_D => .testBit 2 .o7 (.reg .D)
  | .bit_7_E => .testBit 2 .o7 (.reg .E)
  | .bit_7_H => .testBit 2 .o7 (.reg .H)
  | .bit_7_L => .testBit 2 .o7 (.reg .L)
  | .bit_7_mHL => .testBit 2 .o7 atHL
  | .bit_7_A => .testBit 2 .o7 (.reg .A)
  | .res_0_B => .rewrite8 2 (.reg .B) (resetBit .o0)
  | .res_0_C => .rewrite8 2 (.reg .C) (resetBit .o0)
  | .res_0_D => .rewrite8 2 (.reg .D) (resetBit .o0)
  | .res_0_E => .rewrite8 2 (.reg .E) (resetBit .o0)
  | .res_0_H => .rewrite8 2 (.reg .H) (resetBit .o0)
  | .res_0_L => .rewrite8 2 (.reg .L) (resetBit .o0)
  | .res_0_mHL => .rewrite8 2 atHL (resetBit .o0)
  | .res_0_A => .rewrite8 2 (.reg .A) (resetBit .o0)
  | .res_1_B => .rewrite8 2 (.reg .B) (resetBit .o1)
  | .res_1_C => .rewrite8 2 (.reg .C) (resetBit .o1)
  | .res_1_D => .rewrite8 2 (.reg .D) (resetBit .o1)
  | .res_1_E => .rewrite8 2 (.reg .E) (resetBit .o1)
  | .res_1_H => .rewrite8 2 (.reg .H) (resetBit .o1)
  | .res_1_L => .rewrite8 2 (.reg .L) (resetBit .o1)
  | .res_1_mHL => .rewrite8 2 atHL (resetBit .o1)
  | .res_1_A => .rewrite8 2 (.reg .A) (resetBit .o1)
  | .res_2_B => .rewrite8 2 (.reg .B) (resetBit .o2)
  | .res_2_C => .rewrite8 2 (.reg .C) (resetBit .o2)
  | .res_2_D => .rewrite8 2 (.reg .D) (resetBit .o2)
  | .res_2_E => .rewrite8 2 (.reg .E) (resetBit .o2)
  | .res_2_H => .rewrite8 2 (.reg .H) (resetBit .o2)
  | .res_2_L => .rewrite8 2 (.reg .L) (resetBit .o2)
  | .res_2_mHL => .rewrite8 2 atHL (resetBit .o2)
  | .res_2_A => .rewrite8 2 (.reg .A) (resetBit .o2)
  | .res_3_B => .rewrite8 2 (.reg .B) (resetBit .o3)
  | .res_3_C => .rewrite8 2 (.reg .C) (resetBit .o3)
  | .res_3_D => .rewrite8 2 (.reg .D) (resetBit .o3)
  | .res_3_E => .rewrite8 2 (.reg .E) (resetBit .o3)
  | .res_3_H => .rewrite8 2 (.reg .H) (resetBit .o3)
  | .res_3_L => .rewrite8 2 (.reg .L) (resetBit .o3)
  | .res_3_mHL => .rewrite8 2 atHL (resetBit .o3)
  | .res_3_A => .rewrite8 2 (.reg .A) (resetBit .o3)
  | .res_4_B => .rewrite8 2 (.reg .B) (resetBit .o4)
  | .res_4_C => .rewrite8 2 (.reg .C) (resetBit .o4)
  | .res_4_D => .rewrite8 2 (.reg .D) (resetBit .o4)
  | .res_4_E => .rewrite8 2 (.reg .E) (resetBit .o4)
  | .res_4_H => .rewrite8 2 (.reg .H) (resetBit .o4)
  | .res_4_L => .rewrite8 2 (.reg .L) (resetBit .o4)
  | .res_4_mHL => .rewrite8 2 atHL (resetBit .o4)
  | .res_4_A => .rewrite8 2 (.reg .A) (resetBit .o4)
  | .res_5_B => .rewrite8 2 (.reg .B) (resetBit .o5)
  | .res_5_C => .rewrite8 2 (.reg .C) (resetBit .o5)
  | .res_5_D => .rewrite8 2 (.reg .D) (resetBit .o5)
  | .res_5_E => .rewrite8 2 (.reg .E) (resetBit .o5)
  | .res_5_H => .rewrite8 2 (.reg .H) (resetBit .o5)
  | .res_5_L => .rewrite8 2 (.reg .L) (resetBit .o5)
  | .res_5_mHL => .rewrite8 2 atHL (resetBit .o5)
  | .res_5_A => .rewrite8 2 (.reg .A) (resetBit .o5)
  | .res_6_B => .rewrite8 2 (.reg .B) (resetBit .o6)
  | .res_6_C => .rewrite8 2 (.reg .C) (resetBit .o6)
  | .res_6_D => .rewrite8 2 (.reg .D) (resetBit .o6)
  | .res_6_E => .rewrite8 2 (.reg .E) (resetBit .o6)
  | .res_6_H => .rewrite8 2 (.reg .H) (resetBit .o6)
  | .res_6_L => .rewrite8 2 (.reg .L) (resetBit .o6)
  | .res_6_mHL => .rewrite8 2 atHL (resetBit .o6)
  | .res_6_A => .rewrite8 2 (.reg .A) (resetBit .o6)
  | .res_7_B => .rewrite8 2 (.reg .B) (resetBit .o7)
  | .res_7_C => .rewrite8 2 (.reg .C) (resetBit .o7)
  | .res_7_D => .rewrite8 2 (.reg .D) (resetBit .o7)
  | .res_7_E => .rewrite8 2 (.reg .E) (resetBit .o7)
  | .res_7_H => .rewrite8 2 (.reg .H) (resetBit .o7)
  | .res_7_L => .rewrite8 2 (.reg .L) (resetBit .o7)
  | .res_7_mHL => .rewrite8 2 atHL (resetBit .o7)
  | .res_7_A => .rewrite8 2 (.reg .A) (resetBit .o7)
  | .set_0_B => .rewrite8 2 (.reg .B) (setBit .o0)
  | .set_0_C => .rewrite8 2 (.reg .C) (setBit .o0)
  | .set_0_D => .rewrite8 2 (.reg .D) (setBit .o0)
  | .set_0_E => .rewrite8 2 (.reg .E) (setBit .o0)
  | .set_0_H => .rewrite8 2 (.reg .H) (setBit .o0)
  | .set_0_L => .rewrite8 2 (.reg .L) (setBit .o0)
  | .set_0_mHL => .rewrite8 2 atHL (setBit .o0)
  | .set_0_A => .rewrite8 2 (.reg .A) (setBit .o0)
  | .set_1_B => .rewrite8 2 (.reg .B) (setBit .o1)
  | .set_1_C => .rewrite8 2 (.reg .C) (setBit .o1)
  | .set_1_D => .rewrite8 2 (.reg .D) (setBit .o1)
  | .set_1_E => .rewrite8 2 (.reg .E) (setBit .o1)
  | .set_1_H => .rewrite8 2 (.reg .H) (setBit .o1)
  | .set_1_L => .rewrite8 2 (.reg .L) (setBit .o1)
  | .set_1_mHL => .rewrite8 2 atHL (setBit .o1)
  | .set_1_A => .rewrite8 2 (.reg .A) (setBit .o1)
  | .set_2_B => .rewrite8 2 (.reg .B) (setBit .o2)
  | .set_2_C => .rewrite8 2 (.reg .C) (setBit .o2)
  | .set_2_D => .rewrite8 2 (.reg .D) (setBit .o2)
  | .set_2_E => .rewrite8 2 (.reg .E) (setBit .o2)
  | .set_2_H => .rewrite8 2 (.reg .H) (setBit .o2)
  | .set_2_L => .rewrite8 2 (.reg .L) (setBit .o2)
  | .set_2_mHL => .rewrite8 2 atHL (setBit .o2)
  | .set_2_A => .rewrite8 2 (.reg .A) (setBit .o2)
  | .set_3_B => .rewrite8 2 (.reg .B) (setBit .o3)
  | .set_3_C => .rewrite8 2 (.reg .C) (setBit .o3)
  | .set_3_D => .rewrite8 2 (.reg .D) (setBit .o3)
  | .set_3_E => .rewrite8 2 (.reg .E) (setBit .o3)
  | .set_3_H => .rewrite8 2 (.reg .H) (setBit .o3)
  | .set_3_L => .rewrite8 2 (.reg .L) (setBit .o3)
  | .set_3_mHL => .rewrite8 2 atHL (setBit .o3)
  | .set_3_A => .rewrite8 2 (.reg .A) (setBit .o3)
  | .set_4_B => .rewrite8 2 (.reg .B) (setBit .o4)
  | .set_4_C => .rewrite8 2 (.reg .C) (setBit .o4)
  | .set_4_D => .rewrite8 2 (.reg .D) (setBit .o4)
  | .set_4_E => .rewrite8 2 (.reg .E) (setBit .o4)
  | .set_4_H => .rewrite8 2 (.reg .H) (setBit .o4)
  | .set_4_L => .rewrite8 2 (.reg .L) (setBit .o4)
  | .set_4_mHL => .rewrite8 2 atHL (setBit .o4)
  | .set_4_A => .rewrite8 2 (.reg .A) (setBit .o4)
  | .set_5_B => .rewrite8 2 (.reg .B) (setBit .o5)
  | .set_5_C => .rewrite8 2 (.reg .C) (setBit .o5)
  | .set_5_D => .rewrite8 2 (.reg .D) (setBit .o5)
  | .set_5_E => .rewrite8 2 (.reg .E) (setBit .o5)
  | .set_5_H => .rewrite8 2 (.reg .H) (setBit .o5)
  | .set_5_L => .rewrite8 2 (.reg .L) (setBit .o5)
  | .set_5_mHL => .rewrite8 2 atHL (setBit .o5)
  | .set_5_A => .rewrite8 2 (.reg .A) (setBit .o5)
  | .set_6_B => .rewrite8 2 (.reg .B) (setBit .o6)
  | .set_6_C => .rewrite8 2 (.reg .C) (setBit .o6)
  | .set_6_D => .rewrite8 2 (.reg .D) (setBit .o6)
  | .set_6_E => .rewrite8 2 (.reg .E) (setBit .o6)
  | .set_6_H => .rewrite8 2 (.reg .H) (setBit .o6)
  | .set_6_L => .rewrite8 2 (.reg .L) (setBit .o6)
  | .set_6_mHL => .rewrite8 2 atHL (setBit .o6)
  | .set_6_A => .rewrite8 2 (.reg .A) (setBit .o6)
  | .set_7_B => .rewrite8 2 (.reg .B) (setBit .o7)
  | .set_7_C => .rewrite8 2 (.reg .C) (setBit .o7)
  | .set_7_D => .rewrite8 2 (.reg .D) (setBit .o7)
  | .set_7_E => .rewrite8 2 (.reg .E) (setBit .o7)
  | .set_7_H => .rewrite8 2 (.reg .H) (setBit .o7)
  | .set_7_L => .rewrite8 2 (.reg .L) (setBit .o7)
  | .set_7_mHL => .rewrite8 2 atHL (setBit .o7)
  | .set_7_A => .rewrite8 2 (.reg .A) (setBit .o7)

/-- `exec` answers the next state that the instruction's shape leaves. -/
theorem exec_eq (i : Instr) (s : State) : exec i s = .next ((shapeOf i).run s) := by
  cases i <;> rfl

/-- Every shape keeps the invariant. -/
theorem Shape.run_inv (k : Shape) (s : State) (h : s.Inv) : (k.run s).Inv := by
  cases k
  case load8 => exact load8_inv _ _ _ _ h
  case modify8 => exact modify8_inv _ _ _ _ h
  case rewrite8 => exact rewrite8_inv _ _ _ _ h
  case alu => exact alu_inv _ _ _ _ h
  case testBit => exact testBit_inv _ _ _ _ h
  case rotA => exact rotA_inv _ _ _ h
  case setPair | copyHL | incPair | decPair => exact load16_inv _ _ _ _ h
  case storeSP => exact advance_inv _ _ (write16_inv _ _ _ h)
  case addHL => exact addHL_inv _ _ _ h
  case addSp => exact addSp_inv _ _ _ _ h
  case jumpRel => exact jumpRel_inv _ _ _ h
  case jumpRelIf => exact whenCond_inv _ _ _ _ h (jumpRel_inv _ _ _ h)
  case jump | jumpHL => exact jumpTo_inv _ _ h
  case jumpIf => exact whenCond_inv _ _ _ _ h (jumpTo_inv _ _ h)
  case call => exact callTo_inv _ _ _ h
  case callIf => exact whenCond_inv _ _ _ _ h (callTo_inv _ _ _ h)
  case ret => exact returnPop_inv _ h
  case retIf => exact whenCond_inv _ _ _ _ h (returnPop_inv _ h)
  case reti => exact returnIrq_inv _ h
  case push => exact pushPair_inv _ _ _ h
  case pop => exact popPair_inv _ _ _ h
  case daa => exact adjustA_inv _ _ h
  case cpl => exact advance_inv _ _ (setFlags_inv _ _ _ _ _ (set8_inv _ _ _ h))
  case scf | ccf => exact advance_inv _ _ (setFlags_inv _ _ _ _ _ h)
  case prefixed => exact prefixed_inv _ _ h
  case halt =>
    show State.Inv (if !s.ime && s.irqPending.isSome then _ else _)
    split <;> exact h
  case nop | stop | di | ei | illegal => exact h

/-- The shapes that write a control cell. -/
def Shape.writesControl (k : Shape) : Bool :=
  match k with
  | .halt | .stop | .di | .ei | .reti | .illegal _ => true
  | _ => false

/-- Every other shape leaves the control cells alone. -/
theorem Shape.run_control (k : Shape) (s : State) (h : k.writesControl = false) : SameControl s (k.run s) := by
  cases k
  case load8 => exact load8_control ..
  case modify8 => exact modify8_control ..
  case rewrite8 => exact rewrite8_control ..
  case alu => exact alu_control ..
  case testBit => exact testBit_control ..
  case rotA => exact rotA_control ..
  case setPair | copyHL | incPair | decPair => exact load16_control ..
  case storeSP => exact (write16_control ..).trans (advance_control ..)
  case addHL => exact addHL_control ..
  case addSp => exact addSp_control ..
  case jumpRel => exact jumpRel_control ..
  case jumpRelIf => exact whenCond_control _ _ _ _ (jumpRel_control ..)
  case jump | jumpHL => exact jumpTo_control ..
  case jumpIf => exact whenCond_control _ _ _ _ (jumpTo_control ..)
  case call => exact callTo_control ..
  case callIf => exact whenCond_control _ _ _ _ (callTo_control ..)
  case ret => exact returnPop_control ..
  case retIf => exact whenCond_control _ _ _ _ (returnPop_control ..)
  case push => exact pushPair_control ..
  case pop => exact popPair_control ..
  case daa => exact adjustA_control ..
  case cpl => exact (set8_control ..).trans ((setFlags_control ..).trans (advance_control ..))
  case scf | ccf => exact (setFlags_control ..).trans (advance_control ..)
  case prefixed => exact prefixed_control ..
  case nop => exact advance_control ..
  case halt | stop | di | ei | reti | illegal => simp [Shape.writesControl] at h

end Sys2Proof.Laws
end

