-- ==== Sys2Proof/Laws/Effects.lean ====
section
/-! SUPPORT. For each shape, once: the 8-bit registers it can write, whether it can write SP or F, the bytes it stores to,
and how far PC advances. -/

namespace Sys2Proof.Laws

open Sys2Proof.Machine

/-- The 8-bit registers of a 16-bit name, F apart. -/
def cells (p : Reg16) : List Reg8 :=
  match p with
  | .AF => [.A]
  | .BC => [.B, .C]
  | .DE => [.D, .E]
  | .HL => [.H, .L]
  | .SP | .PC => []

/-- The registers that resolving an operand writes. -/
def sideRegs (d : Dest8) : List Reg8 :=
  match d with
  | .ind p .postInc | .ind p .postDec => cells (ptrReg16 p)
  | _ => []

/-- The registers that writing an operand writes. -/
def destRegs (d : Dest8) : List Reg8 :=
  match d with
  | .reg r => [r]
  | d => sideRegs d

/-- The registers that reading an operand writes. -/
def srcRegs (o : Src8) : List Reg8 :=
  match o with
  | .imm _ => []
  | .loc d => sideRegs d

/-- The 8-bit registers a shape can write. -/
def Shape.regs (k : Shape) : List Reg8 :=
  match k with
  | .load8 _ d o => srcRegs o ++ destRegs d
  | .modify8 _ d _ | .rewrite8 _ d _ => destRegs d
  | .alu _ op o => srcRegs o ++ (if op = .CP then [] else [.A])
  | .testBit _ _ d => sideRegs d
  | .rotA _ _ | .daa | .cpl => [.A]
  | .setPair p _ | .incPair p | .decPair p | .addSp p _ | .pop p => cells p
  | .addHL _ => [.H, .L]
  | .prefixed _ => [.A, .B, .C, .D, .E, .H, .L]
  | _ => []

/-- The shape can write SP. -/
def Shape.writesSp (k : Shape) : Bool :=
  match k with
  | .setPair p _ | .incPair p | .decPair p | .addSp p _ => p == .SP
  | .copyHL | .call _ _ | .callIf _ _ | .ret | .retIf _ | .reti | .push _ | .pop _ => true
  | _ => false

theorem reg8_set16 (s : State) (p : Reg16) (v : Word) (r : Reg8) (h : r ∉ cells p) : (s.set16 p v).reg8 r = s.reg8 r := by
  cases p <;> cases r <;> first | rfl | simp [cells] at h

theorem sp_set16 (s : State) (p : Reg16) (v : Word) (h : (p == .SP) = false) : (s.set16 p v).sp = s.sp := by
  cases p <;> first | rfl | simp at h

theorem resolve_reg8 (s : State) (d : Dest8) (r : Reg8) (h : r ∉ sideRegs d) : (s.resolve d).2.reg8 r = s.reg8 r := by
  unfold State.resolve
  split <;> first | rfl | exact reg8_set16 _ _ _ _ h

@[simp] theorem resolve_sp (s : State) (d : Dest8) : (s.resolve d).2.sp = s.sp := by
  unfold State.resolve
  split <;> first | rfl | exact sp_set16 _ _ _ (by cases ‹PtrPair› <;> rfl)

theorem readSrc_reg8 (s : State) (o : Src8) (r : Reg8) (h : r ∉ srcRegs o) : (s.readSrc o).2.reg8 r = s.reg8 r := by
  cases o
  · rfl
  · exact (touchPlace_reg8 ..).trans (resolve_reg8 _ _ _ h)

@[simp] theorem readSrc_sp (s : State) (o : Src8) : (s.readSrc o).2.sp = s.sp := by
  cases o
  · rfl
  · exact (touchPlace_sp ..).trans (resolve_sp ..)

theorem resolve_place (s : State) (d : Dest8) (r : Reg8) : (s.resolve d).1 = .cell r → d = .reg r := by
  unfold State.resolve
  split <;> simp

theorem writePlace_reg8 (s : State) (p : Place) (v : Byte) (r : Reg8) (h : p ≠ .cell r) : (s.writePlace p v).reg8 r = s.reg8 r := by
  cases p with
  | cell q => rw [State.writePlace, reg8_set8, if_neg]; rintro rfl; exact h rfl
  | byteAt a => exact write_reg8 ..

@[simp] theorem writePlace_sp (s : State) (p : Place) (v : Byte) : (s.writePlace p v).sp = s.sp := by
  cases p
  · exact set8_sp ..
  · rfl

/-- A resolved operand written leaves every register but those of the operand. -/
theorem writeDest_reg8 (s u : State) (d : Dest8) (v : Byte) (r : Reg8) (h : r ∉ destRegs d) :
    (u.writePlace (s.resolve d).1 v).reg8 r = u.reg8 r := by
  refine writePlace_reg8 _ _ _ _ fun e => h ?_
  rw [resolve_place _ _ _ e]
  exact List.mem_singleton_self r

theorem side_of_dest (d : Dest8) (r : Reg8) (h : r ∉ destRegs d) : r ∉ sideRegs d := by
  cases d <;> first | exact h | exact List.not_mem_nil

@[simp] theorem push16_reg8 (s : State) (v : Word) (r : Reg8) : (s.push16 v).reg8 r = s.reg8 r := by cases r <;> rfl

@[simp] theorem pop16_reg8 (s : State) (r : Reg8) : s.pop16.2.reg8 r = s.reg8 r := by cases r <;> rfl

@[simp] theorem returnIrq_reg8 (s : State) (r : Reg8) : s.returnIrq.reg8 r = s.reg8 r := by cases r <;> simp [State.reg8]

/-- Every other 8-bit register is as it was. -/
theorem Shape.run_regs (k : Shape) (s : State) (r : Reg8) (h : r ∉ k.regs) : (k.run s).reg8 r = s.reg8 r := by
  cases k <;> simp only [Shape.regs, List.mem_append, not_or] at h
  case load8 n d o =>
    simp only [Shape.run, State.load8, advance_reg8]
    rw [writeDest_reg8 _ _ _ _ _ h.2, resolve_reg8 _ _ _ (side_of_dest _ _ h.2), readSrc_reg8 _ _ _ h.1]
  case modify8 n d g =>
    simp only [Shape.run, State.modify8, advance_reg8, setFlags_reg8]
    rw [writeDest_reg8 _ _ _ _ _ h, touchPlace_reg8, resolve_reg8 _ _ _ (side_of_dest _ _ h)]
  case rewrite8 n d g =>
    simp only [Shape.run, State.rewrite8, advance_reg8]
    rw [writeDest_reg8 _ _ _ _ _ h, touchPlace_reg8, resolve_reg8 _ _ _ (side_of_dest _ _ h)]
  case alu n op o =>
    simp only [Shape.run, State.alu, advance_reg8, setFlags_reg8, reg8_set8]
    split
    · subst r
      cases op <;> first | exact absurd (List.mem_singleton_self _) h.2 | exact readSrc_reg8 _ _ .A h.1
    · exact readSrc_reg8 _ _ _ h.1
  case testBit n b d =>
    simp only [Shape.run, State.testBit, advance_reg8, setFlags_reg8, touchPlace_reg8]
    exact resolve_reg8 _ _ _ h
  case rotA => cases r <;> first | rfl | simp at h
  case daa => cases r <;> first | rfl | simp at h
  case cpl => cases r <;> first | rfl | simp at h
  case setPair | incPair | decPair => exact reg8_set16 _ _ _ _ h
  case copyHL => exact reg8_set16 _ _ _ _ List.not_mem_nil
  case addHL => simp only [Shape.run, State.addHL, advance_reg8, setFlags_reg8]; exact reg8_set16 _ _ _ _ h
  case addSp => simp only [Shape.run, State.addSp, advance_reg8, setFlags_reg8]; exact reg8_set16 _ _ _ _ h
  case pop => simp only [Shape.run, State.popPair, advance_reg8]; rw [reg8_set16 _ _ _ _ h, pop16_reg8]
  case prefixed => cases r <;> simp at h
  case storeSP => cases r <;> rfl
  case jumpRel => cases r <;> rfl
  case jump => cases r <;> rfl
  case jumpHL => cases r <;> rfl
  case jumpRelIf => simp only [Shape.run, State.whenCond]; split <;> cases r <;> rfl
  case jumpIf => simp only [Shape.run, State.whenCond]; split <;> cases r <;> rfl
  case callIf => simp only [Shape.run, State.whenCond, State.callTo]; split <;> simp
  case call => simp [Shape.run, State.callTo]
  case ret => simp [Shape.run, State.returnPop]
  case retIf => simp only [Shape.run, State.whenCond, State.returnPop]; split <;> simp
  case reti => exact returnIrq_reg8 ..
  case push => simp [Shape.run, State.pushPair]
  case halt =>
    show State.reg8 (if _ then _ else _) r = _
    split <;> cases r <;> rfl
  case nop | stop | di | ei | scf | ccf | illegal => cases r <;> rfl

theorem prefixed_sp (s : State) (b : Byte) : (s.prefixed b).sp = s.sp := by
  unfold State.prefixed
  split <;> simp [State.modify8, State.testBit, State.rewrite8]

/-- SP is as it was unless the shape can write it. -/
theorem Shape.run_sp (k : Shape) (s : State) (h : k.writesSp = false) : (k.run s).sp = s.sp := by
  cases k <;> simp only [Shape.writesSp, Bool.true_eq_false] at h
  case load8 => simp [Shape.run, State.load8]
  case modify8 => simp [Shape.run, State.modify8]
  case rewrite8 => simp [Shape.run, State.rewrite8]
  case alu => simp [Shape.run, State.alu]
  case testBit => simp [Shape.run, State.testBit]
  case setPair | incPair | decPair => exact sp_set16 _ _ _ h
  case addSp => exact sp_set16 _ _ _ h
  case jumpRelIf | jumpIf => simp only [Shape.run, State.whenCond]; split <;> rfl
  case prefixed => exact prefixed_sp ..
  case halt =>
    show State.sp (if _ then _ else _) = _
    split <;> rfl
  all_goals rfl

/-- The shape leaves F alone. -/
def Shape.keepsF (k : Shape) : Bool :=
  match k with
  | .modify8 _ _ _ | .alu _ _ _ | .testBit _ _ _ | .rotA _ _ | .addHL _ | .addSp _ _ | .daa | .cpl | .scf | .ccf
  | .prefixed _ => false
  | .setPair p _ | .incPair p | .decPair p | .pop p => !(p == .AF)
  | _ => true

theorem f_set16 (s : State) (p : Reg16) (v : Word) (h : (!(p == .AF)) = true) : (s.set16 p v).f = s.f := by
  cases p <;> first | rfl | simp at h

@[simp] theorem resolve_f (s : State) (d : Dest8) : (s.resolve d).2.f = s.f := by
  unfold State.resolve
  split <;> first | rfl | exact f_set16 _ _ _ (by cases ‹PtrPair› <;> rfl)

@[simp] theorem readSrc_f (s : State) (o : Src8) : (s.readSrc o).2.f = s.f := by
  cases o
  · rfl
  · exact (touchPlace_f ..).trans (resolve_f ..)

@[simp] theorem writePlace_f (s : State) (p : Place) (v : Byte) : (s.writePlace p v).f = s.f := by
  cases p
  · exact set8_f ..
  · rfl

/-- F is as it was. -/
theorem Shape.run_f (k : Shape) (s : State) (h : k.keepsF = true) : (k.run s).f = s.f := by
  cases k <;> simp only [Shape.keepsF, Bool.false_eq_true] at h
  case load8 => simp [Shape.run, State.load8]
  case rewrite8 => simp [Shape.run, State.rewrite8]
  case setPair | incPair | decPair => exact f_set16 _ _ _ h
  case pop => exact f_set16 _ _ _ h
  case jumpRelIf | jumpIf => simp only [Shape.run, State.whenCond]; split <;> rfl
  case callIf => simp only [Shape.run, State.whenCond, State.callTo]; split <;> simp
  case retIf => simp only [Shape.run, State.whenCond, State.returnPop]; split <;> simp
  case call => simp [Shape.run, State.callTo]
  case ret => simp [Shape.run, State.returnPop]
  case reti => exact returnIrq_f ..
  case push => simp [Shape.run, State.pushPair]
  case storeSP => simp [Shape.run, State.write16]
  case halt =>
    show State.f (if _ then _ else _) = _
    split <;> rfl
  all_goals rfl

/-- The byte of memory a place is. -/
def placeAddrs (p : Place) : List Word :=
  match p with
  | .cell _ => []
  | .byteAt a => [a]

/-- The addresses a shape stores to, from state `s`. -/
def Shape.stores (k : Shape) (s : State) : List Word :=
  match k with
  | .load8 _ d o => placeAddrs ((s.readSrc o).2.resolve d).1
  | .modify8 _ d _ | .rewrite8 _ d _ => placeAddrs (s.resolve d).1
  | .storeSP a => [a, a + 1]
  | .call _ _ | .push _ => pushAddrs s
  | .callIf cc _ => if s.cond cc then pushAddrs s else []
  | .prefixed _ => [s.get16 .HL]
  | _ => []

theorem writePlace_quiet_addrs (a : Word) (s : State) (p : Place) (v : Byte) (ha : a ∉ placeAddrs p) :
    Quiet a s (s.writePlace p v) := by
  refine writePlace_quiet _ _ _ _ ?_
  rintro rfl
  exact ha (List.mem_singleton_self a)

theorem push16_quiet_addrs (a : Word) (s : State) (v : Word) (ha : a ∉ pushAddrs s) : Quiet a s (s.push16 v) := by
  have e : s.sp - 1 - 1 = s.sp - 2 := by bv_omega
  simp only [pushAddrs, List.mem_cons, List.not_mem_nil, or_false, not_or] at ha
  exact push16_quiet a s v ha.1 (e ▸ ha.2)

theorem resolve_operandOf (s : State) (z : Oct) (a : Word) (ha : a ≠ s.get16 .HL) : a ∉ placeAddrs (s.resolve (operandOf z)).1 := by
  cases z <;> simp only [operandOf, atHL, State.resolve, placeAddrs, ptrReg16, List.mem_singleton, List.not_mem_nil, not_false_eq_true]
  exact ha

theorem modify8_quiet (a : Word) (s : State) (n : Word) (d : Dest8) (g : Byte → Bool → ByteOut)
    (ha : a ∉ placeAddrs (s.resolve d).1) : Quiet a s (s.modify8 n d g) :=
  (resolve_quiet a s d).trans ((touchPlace_quiet ..).trans ((writePlace_quiet_addrs _ _ _ _ ha).trans (.of_eq rfl rfl rfl)))

theorem rewrite8_quiet (a : Word) (s : State) (n : Word) (d : Dest8) (g : Byte → Byte) (ha : a ∉ placeAddrs (s.resolve d).1) :
    Quiet a s (s.rewrite8 n d g) :=
  (resolve_quiet a s d).trans ((touchPlace_quiet ..).trans ((writePlace_quiet_addrs _ _ _ _ ha).trans (.of_eq rfl rfl rfl)))

theorem testBit_quiet (a : Word) (s : State) (n : Word) (k : Oct) (d : Dest8) : Quiet a s (s.testBit n k d) :=
  (resolve_quiet a s d).trans ((touchPlace_quiet ..).trans (.of_eq rfl rfl rfl))

theorem load16_quiet (a : Word) (s : State) (n : Word) (p : Reg16) (v : Word) : Quiet a s (s.load16 n p v) :=
  .of_eq (set16_bus ..) (set16_busLog ..) (set16_mem ..)

theorem prefixed_quiet (a : Word) (s : State) (b : Byte) (ha : a ≠ s.get16 .HL) : Quiet a s (s.prefixed b) := by
  have w := resolve_operandOf s (fieldZ b) a ha
  unfold State.prefixed
  split <;> first | exact modify8_quiet _ _ _ _ _ w | exact testBit_quiet .. | exact rewrite8_quiet _ _ _ _ _ w

theorem whenCond_quiet (a : Word) (s : State) (cc : Cond) (n : Word) (t : State) (h : s.cond cc = true → Quiet a s t) :
    Quiet a s (s.whenCond cc n t) := by
  unfold State.whenCond
  split
  · exact h ‹_›
  · exact .of_eq rfl rfl rfl

theorem returnPop_quiet (a : Word) (s : State) : Quiet a s s.returnPop := (pop16_quiet a s).trans (.of_eq rfl rfl rfl)

/-- The store is quiet at every other byte. -/
theorem Shape.run_quiet (k : Shape) (s : State) (a : Word) (ha : a ∉ k.stores s) : Quiet a s (k.run s) := by
  cases k
  case load8 n d o =>
    exact (readSrc_quiet a s o).trans ((resolve_quiet ..).trans ((writePlace_quiet_addrs _ _ _ _ ha).trans (.of_eq rfl rfl rfl)))
  case modify8 => exact modify8_quiet _ _ _ _ _ ha
  case rewrite8 => exact rewrite8_quiet _ _ _ _ _ ha
  case alu n op o => exact (readSrc_quiet a s o).trans (.of_eq rfl rfl rfl)
  case testBit => exact testBit_quiet ..
  case rotA => exact .of_eq rfl rfl rfl
  case setPair | copyHL | incPair | decPair => exact load16_quiet ..
  case addHL => exact .of_eq rfl rfl rfl
  case addSp => exact .of_eq (set16_bus ..) (set16_busLog ..) (set16_mem ..)
  case storeSP p =>
    simp only [Shape.stores, List.mem_cons, List.not_mem_nil, or_false, not_or] at ha
    exact (write_quiet a s p _ ha.1).trans ((write_quiet a _ (p + 1) _ ha.2).trans (.of_eq rfl rfl rfl))
  case jumpRelIf | jumpIf => exact whenCond_quiet _ _ _ _ _ fun _ => .of_eq rfl rfl rfl
  case retIf => exact whenCond_quiet _ _ _ _ _ fun _ => returnPop_quiet a s
  case call n t => exact (push16_quiet_addrs a s (s.pcNext n) ha).trans (.of_eq rfl rfl rfl)
  case push p => exact (push16_quiet_addrs a s (s.get16 p) ha).trans (.of_eq rfl rfl rfl)
  case callIf cc t =>
    refine whenCond_quiet _ _ _ _ _ fun c => ?_
    rw [Shape.stores, if_pos c] at ha
    exact (push16_quiet_addrs a s (s.pcNext 3) ha).trans (.of_eq rfl rfl rfl)
  case ret => exact returnPop_quiet a s
  case reti => exact (pop16_quiet a s).trans (.of_eq rfl rfl rfl)
  case pop => exact (pop16_quiet a s).trans (.of_eq (set16_bus ..) (set16_busLog ..) (set16_mem ..))
  case daa => exact .of_eq rfl rfl rfl
  case prefixed => exact prefixed_quiet _ _ _ (fun e => ha (e ▸ List.mem_singleton_self _))
  case halt =>
    show Quiet a s (if _ then _ else _)
    split <;> exact .of_eq rfl rfl rfl
  case jumpRel | jump | jumpHL | nop | stop | di | ei | cpl | scf | ccf | illegal => exact .of_eq rfl rfl rfl

/-- Some byte is not stored to. -/
theorem Shape.exists_unstored (k : Shape) (s : State) : ∃ a, a ∉ k.stores s := by
  have one : ∀ b : Word, ∃ a, a ∉ [b] := fun b => ⟨b + 1, by rw [List.mem_singleton]; bv_omega⟩
  have push : ∃ a, a ∉ pushAddrs s := ⟨s.sp, by simp only [pushAddrs, List.mem_cons, List.not_mem_nil, or_false]; bv_omega⟩
  have place : ∀ p : Place, ∃ a, a ∉ placeAddrs p := fun p => by
    cases p
    · exact ⟨0, List.not_mem_nil⟩
    · exact one _
  cases k
  case load8 | modify8 | rewrite8 => exact place _
  case storeSP a => exact ⟨a + 2, by simp only [Shape.stores, List.mem_cons, List.not_mem_nil, or_false]; bv_omega⟩
  case call | push => exact push
  case callIf cc t =>
    simp only [Shape.stores]
    split
    · exact push
    · exact ⟨0, List.not_mem_nil⟩
  case prefixed => exact one _
  all_goals exact ⟨0, List.not_mem_nil⟩

/-- The devices answer the accesses of an instruction in order. -/
theorem Shape.run_busRuns (k : Shape) (s : State) : BusRuns s (k.run s) :=
  have ⟨a, ha⟩ := k.exists_unstored s
  (k.run_quiet s a ha).1

/-- The bytes by which a shape that is no control transfer, HALT or unused byte advances PC. -/
def Shape.length (k : Shape) : Option Word :=
  match k with
  | .load8 n _ _ | .modify8 n _ _ | .rewrite8 n _ _ | .alu n _ _ | .testBit n _ _ | .rotA n _ => some n
  | .setPair p _ => if p = .PC then none else some 3
  | .incPair p | .decPair p | .pop p => if p = .PC then none else some 1
  | .addSp p _ => if p = .PC then none else some 2
  | .storeSP _ => some 3
  | .copyHL | .addHL _ | .push _ | .nop | .di | .ei | .daa | .cpl | .scf | .ccf => some 1
  | .stop => some 2
  | _ => none

theorem pc_set16 (s : State) (p : Reg16) (v : Word) (h : ¬p = .PC) : (s.set16 p v).pc = s.pc := by
  cases p <;> first | rfl | exact absurd rfl h

@[simp] theorem resolve_pc (s : State) (d : Dest8) : (s.resolve d).2.pc = s.pc := by
  unfold State.resolve
  split <;> first | rfl | exact pc_set16 _ _ _ (by cases ‹PtrPair› <;> decide)

@[simp] theorem readSrc_pc (s : State) (o : Src8) : (s.readSrc o).2.pc = s.pc := by
  cases o
  · rfl
  · exact (touchPlace_pc ..).trans (resolve_pc ..)

@[simp] theorem writePlace_pc (s : State) (p : Place) (v : Byte) : (s.writePlace p v).pc = s.pc := by
  cases p
  · exact set8_pc ..
  · rfl

/-- PC is past the instruction. -/
theorem Shape.run_pc (k : Shape) (s : State) (n : Word) (h : k.length = some n) : (k.run s).pc = s.pc + n := by
  cases k <;> simp only [Shape.length, Option.some.injEq, reduceCtorEq, ite_eq_iff, and_false, false_or] at h
  case load8 =>
    subst h
    simp only [Shape.run, State.load8, State.advance, State.pcNext, writePlace_pc, resolve_pc, readSrc_pc]
  case modify8 =>
    subst h
    simp only [Shape.run, State.modify8, State.advance, State.pcNext, State.setFlags, writePlace_pc, touchPlace_pc, resolve_pc]
  case rewrite8 =>
    subst h
    simp only [Shape.run, State.rewrite8, State.advance, State.pcNext, writePlace_pc, touchPlace_pc, resolve_pc]
  case alu =>
    subst h
    simp only [Shape.run, State.alu, State.advance, State.pcNext, State.setFlags, set8_pc, readSrc_pc]
  case testBit =>
    subst h
    simp only [Shape.run, State.testBit, State.advance, State.pcNext, State.setFlags, touchPlace_pc, resolve_pc]
  case setPair | incPair | decPair => obtain ⟨h, rfl⟩ := h; exact congrArg (· + _) (pc_set16 _ _ _ h)
  case addSp => obtain ⟨h, rfl⟩ := h; exact congrArg (· + _) (pc_set16 _ _ _ h)
  case pop => obtain ⟨h, rfl⟩ := h; exact congrArg (· + _) (pc_set16 _ _ _ h)
  all_goals subst h; rfl

end Sys2Proof.Laws
end

