-- ==== Sys2Proof/Laws/Step.lean ====
section
/-! SUPPORT. What a step can do, said once: it has no step of its own, it takes an interrupt, or it runs the instruction at PC; and
which instructions record a fault. -/

namespace Sys2Proof.Laws

open Sys2Proof.Machine

/-- The three ways of a step. -/
theorem step_cases (s : State) :
    (∃ r, s.noStep = some r ∧ step s = r) ∨
    (s.noStep = none ∧ ∃ n, s.wake.accepts = some n ∧ step s = .next (s.wake.dispatchIrq n).nextInput) ∨
    (s.noStep = none ∧ s.wake.accepts = none ∧
      step s = .next (s.commit ((shapeOf s.wake.promoteEi.fetch.1).run s.wake.promoteEi.fetch.2))) := by
  unfold step
  cases h : s.noStep with
  | some r => exact .inl ⟨r, rfl, rfl⟩
  | none =>
    cases g : s.wake.accepts with
    | some n => exact .inr (.inl ⟨rfl, n, rfl, rfl⟩)
    | none =>
      refine .inr (.inr ⟨rfl, rfl, ?_⟩)
      simp only [runInstr, exec_eq, settle]

/-- A state that is held answers a next state only when it is halted with nothing pending. -/
theorem noStep_next {s t : State} (h : s.noStep = some (.next t)) :
    s.fault = none ∧ s.mode = .halted ∧ s.irqPending = none ∧ t = s.nextInput := by
  unfold State.noStep at h
  split at h
  · split at h <;> simp at h
  · rename_i hf
    split at h
    · simp at h
    · simp at h
    · split at h
      · simp only [Option.some.injEq, Host.Outcome.next.injEq] at h
        exact ⟨hf, ‹_›, by simpa using ‹s.irqPending.isNone = true›, h.symm⟩
      · simp at h

/-- A state has a step that does something exactly when it is not held. -/
theorem noStep_none {s : State} : s.noStep = none ↔ s.canStep := by
  unfold State.noStep State.canStep
  split
  · rename_i r h; rw [h]; simp; split <;> simp
  · rename_i h; rw [h]; simp
    split <;> simp [*]

/-- An instruction leaves the fault cell, or it is an unused byte, or it is HALT with IME = 0 and an interrupt pending. -/
theorem Shape.run_fault (k : Shape) (s : State) :
    (k.run s).fault = s.fault ∨ (∃ v, k = .illegal v ∧ k.run s = s.recordFault .illegalOpcode v) ∨
    (k = .halt ∧ s.ime = false ∧ s.irqPending ≠ none ∧ k.run s = s.recordFault .haltBug 0x76) := by
  cases h : k.writesControl with
  | false => exact .inl (Shape.run_control _ s h).2.2.2.1
  | true =>
    cases k <;> simp [Shape.writesControl] at h
    case halt =>
      by_cases g : (!s.ime && s.irqPending.isSome) = true
      · refine .inr (.inr ⟨rfl, by simp_all, ?_, ?_⟩)
        · intro hn; simp [hn] at g
        · show (if _ then _ else _) = _
          rw [if_pos g]
      · left
        show State.fault (if _ then _ else _) = _
        rw [if_neg g]; rfl
    case illegal => exact .inr (.inl ⟨_, rfl, rfl⟩)
    case reti => exact .inl (returnIrq_fault s)
    all_goals exact .inl rfl

/-- No instruction acknowledges an interrupt. -/
theorem Shape.run_acks (k : Shape) (s : State) : (k.run s).acks = s.acks := by
  cases h : k.writesControl with
  | false => exact (Shape.run_control _ s h).2.2.2.2.2
  | true =>
    cases k <;> simp [Shape.writesControl] at h
    case halt =>
      show State.acks (if _ then _ else _) = _
      split <;> rfl
    case reti => exact returnIrq_acks s
    all_goals rfl

end Sys2Proof.Laws
end

