-- ==== Sys2Proof/Laws/Window.lean ====
section
/-! SUPPORT. The fields of an opcode (30_encoding.md R69), by which a claim over all bytes is a claim over all fields, and the bytes
of a word. -/

namespace Sys2Proof.Laws

/-- A byte is the opcode with its own fields. -/
theorem opByte_fields (w : Byte) : w = opByte (fieldX w) (fieldY w) (fieldZ w) := by
  revert w; decide

/-- What holds of the opcode of all fields holds of every byte. -/
theorem byte_by_fields (P : Byte → Prop) (h : ∀ x y z, P (opByte x y z)) (w : Byte) : P w := by
  rw [opByte_fields w]; exact h ..

/-- An instruction is fetched with one, two or three bytes. -/
theorem fetchLength_cases (w : Byte) : fetchLength w = 1 ∨ fetchLength w = 2 ∨ fetchLength w = 3 := by
  revert w; decide

@[simp] theorem join_hiByte_loByte (w : Word) : join (hiByte w) (loByte w) = w := by
  apply BitVec.eq_of_getLsbD_eq
  intro i hi
  simp only [join, hiByte, loByte, BitVec.getLsbD_append, BitVec.getLsbD_extractLsb']
  split
  · simp [*]
  · have h1 : i - 8 < 8 := by omega
    have h2 : 8 + (i - 8) = i := by omega
    simp only [h1, h2, decide_true, Bool.true_and]

@[simp] theorem hiByte_join (a b : Byte) : hiByte (join a b) = a := by
  apply BitVec.eq_of_getLsbD_eq
  intro i hi
  have h1 : ¬ 8 + i < 8 := by omega
  have h2 : 8 + i - 8 = i := by omega
  simp only [join, hiByte, BitVec.getLsbD_append, BitVec.getLsbD_extractLsb', hi, h1, h2, if_false, decide_true, Bool.true_and]

@[simp] theorem loByte_join (a b : Byte) : loByte (join a b) = b := by
  apply BitVec.eq_of_getLsbD_eq
  intro i hi
  simp only [join, loByte, BitVec.getLsbD_append, BitVec.getLsbD_extractLsb', hi, Nat.zero_add, if_true, decide_true, Bool.true_and]

theorem join_toNat (hi lo : Byte) : (join hi lo).toNat = lo.toNat + 256 * hi.toNat := by
  simp only [join, BitVec.toNat_append]
  have := lo.isLt
  rw [Nat.shiftLeft_eq, Nat.mul_comm, ← Nat.two_pow_add_eq_or_of_lt (by omega)]
  omega

theorem loByte_ofNat (w : Word) : loByte w = BitVec.ofNat 8 w.toNat := by
  apply BitVec.eq_of_toNat_eq; simp [loByte]

theorem hiByte_ofNat (w : Word) : hiByte w = BitVec.ofNat 8 (w.toNat / 256) := by
  apply BitVec.eq_of_toNat_eq; simp [hiByte, Nat.shiftRight_eq_div_pow]

end Sys2Proof.Laws
end

