-- ==== Sys2Proof/Tests/Slice0.lean ====
section
/-! SUPPORT. Tests of the model: the well-formedness smoke test, the decoder on every cell of the opcode maps (30_encoding.md R78,
R81) with operand bytes 0x34 0x12, single steps from the vectors of 95_test_vectors.md section 2, and for each obligation with
hypotheses a state and operands that meet them. Every expected value is the spec's. -/

namespace Sys2Proof.Tests

open Sys2Proof.Machine

/-! ### Well-formedness (log 12) -/

/-- The row of the prefix alone is no instruction of the decoder. -/
theorem test_wellFormed_refuses_prefix_CB : (Instr.prefix_CB 0x00).wellFormed = false := by decide

theorem test_wellFormed_accepts_the_cb_instruction : (decodeCb 0x00).wellFormed = true ∧ (Instr.unused_D3).wellFormed = true := by
  decide

/-! ### The decoder on the opcode maps -/

theorem test_map_main_0 :
    [0x00, 0x01, 0x02, 0x03, 0x04, 0x05, 0x06, 0x07, 0x08, 0x09, 0x0A, 0x0B, 0x0C, 0x0D, 0x0E, 0x0F].map
      (fun b : Byte => decodeWindow b 0x34 0x12) =
    [.nop, .ld_BC_d16 0x1234, .ld_mBC_A, .inc_BC, .inc_B, .dec_B, .ld_B_d8 0x34, .rlca, .ld_ma16_SP 0x1234, .add_HL_BC,
     .ld_A_mBC, .dec_BC, .inc_C, .dec_C, .ld_C_d8 0x34, .rrca] := by rfl

theorem test_map_main_1 :
    [0x10, 0x11, 0x12, 0x13, 0x14, 0x15, 0x16, 0x17, 0x18, 0x19, 0x1A, 0x1B, 0x1C, 0x1D, 0x1E, 0x1F].map
      (fun b : Byte => decodeWindow b 0x34 0x12) =
    [.stop 0x34, .ld_DE_d16 0x1234, .ld_mDE_A, .inc_DE, .inc_D, .dec_D, .ld_D_d8 0x34, .rla, .jr 0x34, .add_HL_DE,
     .ld_A_mDE, .dec_DE, .inc_E, .dec_E, .ld_E_d8 0x34, .rra] := by rfl

theorem test_map_main_2 :
    [0x20, 0x21, 0x22, 0x23, 0x24, 0x25, 0x26, 0x27, 0x28, 0x29, 0x2A, 0x2B, 0x2C, 0x2D, 0x2E, 0x2F].map
      (fun b : Byte => decodeWindow b 0x34 0x12) =
    [.jr_NZ 0x34, .ld_HL_d16 0x1234, .ld_mHLi_A, .inc_HL, .inc_H, .dec_H, .ld_H_d8 0x34, .daa, .jr_Z 0x34, .add_HL_HL,
     .ld_A_mHLi, .dec_HL, .inc_L, .dec_L, .ld_L_d8 0x34, .cpl] := by rfl

theorem test_map_main_3 :
    [0x30, 0x31, 0x32, 0x33, 0x34, 0x35, 0x36, 0x37, 0x38, 0x39, 0x3A, 0x3B, 0x3C, 0x3D, 0x3E, 0x3F].map
      (fun b : Byte => decodeWindow b 0x34 0x12) =
    [.jr_NC 0x34, .ld_SP_d16 0x1234, .ld_mHLd_A, .inc_SP, .inc_mHL, .dec_mHL, .ld_mHL_d8 0x34, .scf, .jr_C 0x34, .add_HL_SP,
     .ld_A_mHLd, .dec_SP, .inc_A, .dec_A, .ld_A_d8 0x34, .ccf] := by rfl

theorem test_map_main_4 :
    [0x40, 0x41, 0x42, 0x43, 0x44, 0x45, 0x46, 0x47, 0x48, 0x49, 0x4A, 0x4B, 0x4C, 0x4D, 0x4E, 0x4F].map
      (fun b : Byte => decodeWindow b 0x34 0x12) =
    [.ld_B_B, .ld_B_C, .ld_B_D, .ld_B_E, .ld_B_H, .ld_B_L, .ld_B_mHL, .ld_B_A, .ld_C_B, .ld_C_C, .ld_C_D, .ld_C_E, .ld_C_H,
     .ld_C_L, .ld_C_mHL, .ld_C_A] := by rfl

theorem test_map_main_5 :
    [0x50, 0x51, 0x52, 0x53, 0x54, 0x55, 0x56, 0x57, 0x58, 0x59, 0x5A, 0x5B, 0x5C, 0x5D, 0x5E, 0x5F].map
      (fun b : Byte => decodeWindow b 0x34 0x12) =
    [.ld_D_B, .ld_D_C, .ld_D_D, .ld_D_E, .ld_D_H, .ld_D_L, .ld_D_mHL, .ld_D_A, .ld_E_B, .ld_E_C, .ld_E_D, .ld_E_E, .ld_E_H,
     .ld_E_L, .ld_E_mHL, .ld_E_A] := by rfl

theorem test_map_main_6 :
    [0x60, 0x61, 0x62, 0x63, 0x64, 0x65, 0x66, 0x67, 0x68, 0x69, 0x6A, 0x6B, 0x6C, 0x6D, 0x6E, 0x6F].map
      (fun b : Byte => decodeWindow b 0x34 0x12) =
    [.ld_H_B, .ld_H_C, .ld_H_D, .ld_H_E, .ld_H_H, .ld_H_L, .ld_H_mHL, .ld_H_A, .ld_L_B, .ld_L_C, .ld_L_D, .ld_L_E, .ld_L_H,
     .ld_L_L, .ld_L_mHL, .ld_L_A] := by rfl

theorem test_map_main_7 :
    [0x70, 0x71, 0x72, 0x73, 0x74, 0x75, 0x76, 0x77, 0x78, 0x79, 0x7A, 0x7B, 0x7C, 0x7D, 0x7E, 0x7F].map
      (fun b : Byte => decodeWindow b 0x34 0x12) =
    [.ld_mHL_B, .ld_mHL_C, .ld_mHL_D, .ld_mHL_E, .ld_mHL_H, .ld_mHL_L, .halt, .ld_mHL_A, .ld_A_B, .ld_A_C, .ld_A_D, .ld_A_E,
     .ld_A_H, .ld_A_L, .ld_A_mHL, .ld_A_A] := by rfl

theorem test_map_main_8 :
    [0x80, 0x81, 0x82, 0x83, 0x84, 0x85, 0x86, 0x87, 0x88, 0x89, 0x8A, 0x8B, 0x8C, 0x8D, 0x8E, 0x8F].map
      (fun b : Byte => decodeWindow b 0x34 0x12) =
    [.add_A_B, .add_A_C, .add_A_D, .add_A_E, .add_A_H, .add_A_L, .add_A_mHL, .add_A_A, .adc_A_B, .adc_A_C, .adc_A_D,
     .adc_A_E, .adc_A_H, .adc_A_L, .adc_A_mHL, .adc_A_A] := by rfl

theorem test_map_main_9 :
    [0x90, 0x91, 0x92, 0x93, 0x94, 0x95, 0x96, 0x97, 0x98, 0x99, 0x9A, 0x9B, 0x9C, 0x9D, 0x9E, 0x9F].map
      (fun b : Byte => decodeWindow b 0x34 0x12) =
    [.sub_B, .sub_C, .sub_D, .sub_E, .sub_H, .sub_L, .sub_mHL, .sub_A, .sbc_A_B, .sbc_A_C, .sbc_A_D, .sbc_A_E, .sbc_A_H,
     .sbc_A_L, .sbc_A_mHL, .sbc_A_A] := by rfl

theorem test_map_main_A :
    [0xA0, 0xA1, 0xA2, 0xA3, 0xA4, 0xA5, 0xA6, 0xA7, 0xA8, 0xA9, 0xAA, 0xAB, 0xAC, 0xAD, 0xAE, 0xAF].map
      (fun b : Byte => decodeWindow b 0x34 0x12) =
    [.and_B, .and_C, .and_D, .and_E, .and_H, .and_L, .and_mHL, .and_A, .xor_B, .xor_C, .xor_D, .xor_E, .xor_H, .xor_L,
     .xor_mHL, .xor_A] := by rfl

theorem test_map_main_B :
    [0xB0, 0xB1, 0xB2, 0xB3, 0xB4, 0xB5, 0xB6, 0xB7, 0xB8, 0xB9, 0xBA, 0xBB, 0xBC, 0xBD, 0xBE, 0xBF].map
      (fun b : Byte => decodeWindow b 0x34 0x12) =
    [.or_B, .or_C, .or_D, .or_E, .or_H, .or_L, .or_mHL, .or_A, .cp_B, .cp_C, .cp_D, .cp_E, .cp_H, .cp_L, .cp_mHL, .cp_A] := by rfl

/-- 0xCB 0x34 is SWAP H. -/
theorem test_map_main_C :
    [0xC0, 0xC1, 0xC2, 0xC3, 0xC4, 0xC5, 0xC6, 0xC7, 0xC8, 0xC9, 0xCA, 0xCB, 0xCC, 0xCD, 0xCE, 0xCF].map
      (fun b : Byte => decodeWindow b 0x34 0x12) =
    [.ret_NZ, .pop_BC, .jp_NZ 0x1234, .jp 0x1234, .call_NZ 0x1234, .push_BC, .add_A_d8 0x34, .rst_00, .ret_Z, .ret,
     .jp_Z 0x1234, .swap_H, .call_Z 0x1234, .call 0x1234, .adc_A_d8 0x34, .rst_08] := by rfl

theorem test_map_main_D :
    [0xD0, 0xD1, 0xD2, 0xD3, 0xD4, 0xD5, 0xD6, 0xD7, 0xD8, 0xD9, 0xDA, 0xDB, 0xDC, 0xDD, 0xDE, 0xDF].map
      (fun b : Byte => decodeWindow b 0x34 0x12) =
    [.ret_NC, .pop_DE, .jp_NC 0x1234, .unused_D3, .call_NC 0x1234, .push_DE, .sub_d8 0x34, .rst_10, .ret_C, .reti,
     .jp_C 0x1234, .unused_DB, .call_C 0x1234, .unused_DD, .sbc_A_d8 0x34, .rst_18] := by rfl

theorem test_map_main_E :
    [0xE0, 0xE1, 0xE2, 0xE3, 0xE4, 0xE5, 0xE6, 0xE7, 0xE8, 0xE9, 0xEA, 0xEB, 0xEC, 0xED, 0xEE, 0xEF].map
      (fun b : Byte => decodeWindow b 0x34 0x12) =
    [.ldh_ma8_A 0x34, .pop_HL, .ld_mC_A, .unused_E3, .unused_E4, .push_HL, .and_d8 0x34, .rst_20, .add_SP_e8 0x34, .jp_HL,
     .ld_ma16_A 0x1234, .unused_EB, .unused_EC, .unused_ED, .xor_d8 0x34, .rst_28] := by rfl

theorem test_map_main_F :
    [0xF0, 0xF1, 0xF2, 0xF3, 0xF4, 0xF5, 0xF6, 0xF7, 0xF8, 0xF9, 0xFA, 0xFB, 0xFC, 0xFD, 0xFE, 0xFF].map
      (fun b : Byte => decodeWindow b 0x34 0x12) =
    [.ldh_A_ma8 0x34, .pop_AF, .ld_A_mC, .di, .unused_F4, .push_AF, .or_d8 0x34, .rst_30, .ld_HL_SPe8 0x34, .ld_SP_HL,
     .ld_A_ma16 0x1234, .ei, .unused_FC, .unused_FD, .cp_d8 0x34, .rst_38] := by rfl

theorem test_map_cb_0 :
    [0x00, 0x01, 0x02, 0x03, 0x04, 0x05, 0x06, 0x07, 0x08, 0x09, 0x0A, 0x0B, 0x0C, 0x0D, 0x0E, 0x0F].map
      (fun b : Byte => decodeWindow 0xCB b 0x12) =
    [.rlc_B, .rlc_C, .rlc_D, .rlc_E, .rlc_H, .rlc_L, .rlc_mHL, .rlc_A, .rrc_B, .rrc_C, .rrc_D, .rrc_E, .rrc_H, .rrc_L,
     .rrc_mHL, .rrc_A] := by rfl

theorem test_map_cb_1 :
    [0x10, 0x11, 0x12, 0x13, 0x14, 0x15, 0x16, 0x17, 0x18, 0x19, 0x1A, 0x1B, 0x1C, 0x1D, 0x1E, 0x1F].map
      (fun b : Byte => decodeWindow 0xCB b 0x12) =
    [.rl_B, .rl_C, .rl_D, .rl_E, .rl_H, .rl_L, .rl_mHL, .rl_A, .rr_B, .rr_C, .rr_D, .rr_E, .rr_H, .rr_L, .rr_mHL, .rr_A] := by rfl

theorem test_map_cb_2 :
    [0x20, 0x21, 0x22, 0x23, 0x24, 0x25, 0x26, 0x27, 0x28, 0x29, 0x2A, 0x2B, 0x2C, 0x2D, 0x2E, 0x2F].map
      (fun b : Byte => decodeWindow 0xCB b 0x12) =
    [.sla_B, .sla_C, .sla_D, .sla_E, .sla_H, .sla_L, .sla_mHL, .sla_A, .sra_B, .sra_C, .sra_D, .sra_E, .sra_H, .sra_L,
     .sra_mHL, .sra_A] := by rfl

theorem test_map_cb_3 :
    [0x30, 0x31, 0x32, 0x33, 0x34, 0x35, 0x36, 0x37, 0x38, 0x39, 0x3A, 0x3B, 0x3C, 0x3D, 0x3E, 0x3F].map
      (fun b : Byte => decodeWindow 0xCB b 0x12) =
    [.swap_B, .swap_C, .swap_D, .swap_E, .swap_H, .swap_L, .swap_mHL, .swap_A, .srl_B, .srl_C, .srl_D, .srl_E, .srl_H,
     .srl_L, .srl_mHL, .srl_A] := by rfl

theorem test_map_cb_4 :
    [0x40, 0x41, 0x42, 0x43, 0x44, 0x45, 0x46, 0x47, 0x48, 0x49, 0x4A, 0x4B, 0x4C, 0x4D, 0x4E, 0x4F].map
      (fun b : Byte => decodeWindow 0xCB b 0x12) =
    [.bit_0_B, .bit_0_C, .bit_0_D, .bit_0_E, .bit_0_H, .bit_0_L, .bit_0_mHL, .bit_0_A, .bit_1_B, .bit_1_C, .bit_1_D,
     .bit_1_E, .bit_1_H, .bit_1_L, .bit_1_mHL, .bit_1_A] := by rfl

theorem test_map_cb_5 :
    [0x50, 0x51, 0x52, 0x53, 0x54, 0x55, 0x56, 0x57, 0x58, 0x59, 0x5A, 0x5B, 0x5C, 0x5D, 0x5E, 0x5F].map
      (fun b : Byte => decodeWindow 0xCB b 0x12) =
    [.bit_2_B, .bit_2_C, .bit_2_D, .bit_2_E, .bit_2_H, .bit_2_L, .bit_2_mHL, .bit_2_A, .bit_3_B, .bit_3_C, .bit_3_D,
     .bit_3_E, .bit_3_H, .bit_3_L, .bit_3_mHL, .bit_3_A] := by rfl

theorem test_map_cb_6 :
    [0x60, 0x61, 0x62, 0x63, 0x64, 0x65, 0x66, 0x67, 0x68, 0x69, 0x6A, 0x6B, 0x6C, 0x6D, 0x6E, 0x6F].map
      (fun b : Byte => decodeWindow 0xCB b 0x12) =
    [.bit_4_B, .bit_4_C, .bit_4_D, .bit_4_E, .bit_4_H, .bit_4_L, .bit_4_mHL, .bit_4_A, .bit_5_B, .bit_5_C, .bit_5_D,
     .bit_5_E, .bit_5_H, .bit_5_L, .bit_5_mHL, .bit_5_A] := by rfl

theorem test_map_cb_7 :
    [0x70, 0x71, 0x72, 0x73, 0x74, 0x75, 0x76, 0x77, 0x78, 0x79, 0x7A, 0x7B, 0x7C, 0x7D, 0x7E, 0x7F].map
      (fun b : Byte => decodeWindow 0xCB b 0x12) =
    [.bit_6_B, .bit_6_C, .bit_6_D, .bit_6_E, .bit_6_H, .bit_6_L, .bit_6_mHL, .bit_6_A, .bit_7_B, .bit_7_C, .bit_7_D,
     .bit_7_E, .bit_7_H, .bit_7_L, .bit_7_mHL, .bit_7_A] := by rfl

theorem test_map_cb_8 :
    [0x80, 0x81, 0x82, 0x83, 0x84, 0x85, 0x86, 0x87, 0x88, 0x89, 0x8A, 0x8B, 0x8C, 0x8D, 0x8E, 0x8F].map
      (fun b : Byte => decodeWindow 0xCB b 0x12) =
    [.res_0_B, .res_0_C, .res_0_D, .res_0_E, .res_0_H, .res_0_L, .res_0_mHL, .res_0_A, .res_1_B, .res_1_C, .res_1_D,
     .res_1_E, .res_1_H, .res_1_L, .res_1_mHL, .res_1_A] := by rfl

theorem test_map_cb_9 :
    [0x90, 0x91, 0x92, 0x93, 0x94, 0x95, 0x96, 0x97, 0x98, 0x99, 0x9A, 0x9B, 0x9C, 0x9D, 0x9E, 0x9F].map
      (fun b : Byte => decodeWindow 0xCB b 0x12) =
    [.res_2_B, .res_2_C, .res_2_D, .res_2_E, .res_2_H, .res_2_L, .res_2_mHL, .res_2_A, .res_3_B, .res_3_C, .res_3_D,
     .res_3_E, .res_3_H, .res_3_L, .res_3_mHL, .res_3_A] := by rfl

theorem test_map_cb_A :
    [0xA0, 0xA1, 0xA2, 0xA3, 0xA4, 0xA5, 0xA6, 0xA7, 0xA8, 0xA9, 0xAA, 0xAB, 0xAC, 0xAD, 0xAE, 0xAF].map
      (fun b : Byte => decodeWindow 0xCB b 0x12) =
    [.res_4_B, .res_4_C, .res_4_D, .res_4_E, .res_4_H, .res_4_L, .res_4_mHL, .res_4_A, .res_5_B, .res_5_C, .res_5_D,
     .res_5_E, .res_5_H, .res_5_L, .res_5_mHL, .res_5_A] := by rfl

theorem test_map_cb_B :
    [0xB0, 0xB1, 0xB2, 0xB3, 0xB4, 0xB5, 0xB6, 0xB7, 0xB8, 0xB9, 0xBA, 0xBB, 0xBC, 0xBD, 0xBE, 0xBF].map
      (fun b : Byte => decodeWindow 0xCB b 0x12) =
    [.res_6_B, .res_6_C, .res_6_D, .res_6_E, .res_6_H, .res_6_L, .res_6_mHL, .res_6_A, .res_7_B, .res_7_C, .res_7_D,
     .res_7_E, .res_7_H, .res_7_L, .res_7_mHL, .res_7_A] := by rfl

theorem test_map_cb_C :
    [0xC0, 0xC1, 0xC2, 0xC3, 0xC4, 0xC5, 0xC6, 0xC7, 0xC8, 0xC9, 0xCA, 0xCB, 0xCC, 0xCD, 0xCE, 0xCF].map
      (fun b : Byte => decodeWindow 0xCB b 0x12) =
    [.set_0_B, .set_0_C, .set_0_D, .set_0_E, .set_0_H, .set_0_L, .set_0_mHL, .set_0_A, .set_1_B, .set_1_C, .set_1_D,
     .set_1_E, .set_1_H, .set_1_L, .set_1_mHL, .set_1_A] := by rfl

theorem test_map_cb_D :
    [0xD0, 0xD1, 0xD2, 0xD3, 0xD4, 0xD5, 0xD6, 0xD7, 0xD8, 0xD9, 0xDA, 0xDB, 0xDC, 0xDD, 0xDE, 0xDF].map
      (fun b : Byte => decodeWindow 0xCB b 0x12) =
    [.set_2_B, .set_2_C, .set_2_D, .set_2_E, .set_2_H, .set_2_L, .set_2_mHL, .set_2_A, .set_3_B, .set_3_C, .set_3_D,
     .set_3_E, .set_3_H, .set_3_L, .set_3_mHL, .set_3_A] := by rfl

theorem test_map_cb_E :
    [0xE0, 0xE1, 0xE2, 0xE3, 0xE4, 0xE5, 0xE6, 0xE7, 0xE8, 0xE9, 0xEA, 0xEB, 0xEC, 0xED, 0xEE, 0xEF].map
      (fun b : Byte => decodeWindow 0xCB b 0x12) =
    [.set_4_B, .set_4_C, .set_4_D, .set_4_E, .set_4_H, .set_4_L, .set_4_mHL, .set_4_A, .set_5_B, .set_5_C, .set_5_D,
     .set_5_E, .set_5_H, .set_5_L, .set_5_mHL, .set_5_A] := by rfl

theorem test_map_cb_F :
    [0xF0, 0xF1, 0xF2, 0xF3, 0xF4, 0xF5, 0xF6, 0xF7, 0xF8, 0xF9, 0xFA, 0xFB, 0xFC, 0xFD, 0xFE, 0xFF].map
      (fun b : Byte => decodeWindow 0xCB b 0x12) =
    [.set_6_B, .set_6_C, .set_6_D, .set_6_E, .set_6_H, .set_6_L, .set_6_mHL, .set_6_A, .set_7_B, .set_7_C, .set_7_D,
     .set_7_E, .set_7_H, .set_7_L, .set_7_mHL, .set_7_A] := by rfl

/-- A row's bits as the table numbers them: 0xCB7E is BIT 7,(HL), 0x20 with no operand bits is JR NZ with operand 0. -/
theorem test_table_words : decodeTableWord 16 0xCB7E = some .bit_7_mHL ∧ decodeTableWord 8 0x20 = some (.jr_NZ 0) ∧
    decodeTableWord 24 0x123421 = some (.ld_HL_d16 0x1234) := by
  exact ⟨rfl, rfl, rfl⟩

/-- The list decoder asks for the bytes that the first byte announces. -/
theorem test_decode_truncated : decode [] = .error .empty ∧ decode [0xCB] = .error (.truncated 2) ∧
    decode [0x21, 0x34] = .error (.truncated 3) ∧ decode [0xD3, 0x01] = .ok (.unused_D3, [0x01]) := by
  exact ⟨rfl, rfl, rfl, rfl⟩

/-- The encoder's bytes: little-endian immediates, the prefix first. -/
theorem test_encode : encode (.ld_HL_d16 0x1234) = [0x21, 0x34, 0x12] ∧ encode .bit_7_mHL = [0xCB, 0x7E] ∧
    encode (.jr_NZ 0xFA) = [0x20, 0xFA] ∧ encode (.stop 0xFF) = [0x10, 0xFF] ∧ encode .unused_FD = [0xFD] := by
  exact ⟨rfl, rfl, rfl, rfl, rfl⟩

/-! ### Steps -/

/-- The start of the vectors: PC = 0100, every cell 0. -/
def start : State := { State.reset with pc := 0x0100 }

/-- What is seen of the next state. -/
def after {α : Type} (s : State) (see : State → α) : Option α :=
  match step s with
  | .next t => some (see t)
  | _ => none

/-- 2.1: LD B,C. -/
theorem test_ld_B_C_1 : after { start with b := 0x12, c := 0x34, mem := [(0x0100, 0x41)] }
    (fun t => (t.f, t.b, t.pc)) = some (0x00, 0x34, 0x0101) := by decide

/-- 2.1: LD A,A: same register, no change but PC. -/
theorem test_ld_A_A_1 : after { start with a := 0x5A, mem := [(0x0100, 0x7F)] }
    (fun t => (t.f, t.pc)) = some (0x00, 0x0101) := by decide

/-- 2.1: LD A,(HL). -/
theorem test_ld_A_mHL_1 : after { start with h := 0xC0, mem := [(0x0100, 0x7E), (0xC000, 0x99)] }
    (fun t => (t.a, t.f, t.pc)) = some (0x99, 0x00, 0x0101) := by decide

/-- 2.1: LD (HL),H: source is the address high byte. -/
theorem test_ld_mHL_H_1 : after { start with h := 0xC1, l := 0x23, mem := [(0x0100, 0x74)] }
    (fun t => (t.f, t.pc, t.read 0xC123)) = some (0x00, 0x0101, 0xC1) := by decide

/-- 2.1: LD (HL),L. -/
theorem test_ld_mHL_L_1 : after { start with h := 0xC1, l := 0x23, mem := [(0x0100, 0x75)] }
    (fun t => (t.f, t.pc, t.read 0xC123)) = some (0x00, 0x0101, 0x23) := by decide

/-- 2.1: LD B,d8. -/
theorem test_ld_B_d8_1 : after { start with mem := [(0x0100, 0x06), (0x0101, 0xFF)] }
    (fun t => (t.f, t.b, t.pc)) = some (0x00, 0xFF, 0x0102) := by decide

/-- 2.1: LD (HL),d8. -/
theorem test_ld_mHL_d8_1 : after { start with h := 0xC0, l := 0x10, mem := [(0x0100, 0x36), (0x0101, 0x42)] }
    (fun t => (t.f, t.pc, t.read 0xC010)) = some (0x00, 0x0102, 0x42) := by decide

/-- 2.1: LD (BC),A. -/
theorem test_ld_mBC_A_1 : after { start with a := 0x77, b := 0xC2, mem := [(0x0100, 0x02)] }
    (fun t => (t.f, t.pc, t.read 0xC200)) = some (0x00, 0x0101, 0x77) := by decide

/-- 2.1: LD (DE),A. -/
theorem test_ld_mDE_A_1 : after { start with a := 0x77, d := 0xC2, e := 0x01, mem := [(0x0100, 0x12)] }
    (fun t => (t.f, t.pc, t.read 0xC201)) = some (0x00, 0x0101, 0x77) := by decide

/-- 2.1: LD A,(BC). -/
theorem test_ld_A_mBC_1 : after { start with b := 0xC2, mem := [(0x0100, 0x0A), (0xC200, 0x3C)] }
    (fun t => (t.a, t.f, t.pc)) = some (0x3C, 0x00, 0x0101) := by decide

/-- 2.1: LD A,(DE). -/
theorem test_ld_A_mDE_1 : after { start with d := 0xC2, e := 0x01, mem := [(0x0100, 0x1A), (0xC201, 0xC3)] }
    (fun t => (t.a, t.f, t.pc)) = some (0xC3, 0x00, 0x0101) := by decide

/-- 2.1: LD (HL+),A at 0xFFFF: HL wraps to 0000. -/
theorem test_ld_mHLi_A_1 : after { start with a := 0x11, h := 0xFF, l := 0xFF, mem := [(0x0100, 0x22)] }
    (fun t => (t.f, t.h, t.l, t.pc, t.read 0xFFFF)) = some (0x00, 0x00, 0x00, 0x0101, 0x11) := by decide

/-- 2.1: LD (HL-),A at 0x0000: HL wraps to FFFF. -/
theorem test_ld_mHLd_A_1 : after { start with a := 0x22, mem := [(0x0100, 0x32)] }
    (fun t => (t.f, t.h, t.l, t.pc, t.read 0x0000)) = some (0x00, 0xFF, 0xFF, 0x0101, 0x22) := by decide

/-- 2.1: LD A,(HL+): carry into H. -/
theorem test_ld_A_mHLi_1 : after { start with h := 0xC0, l := 0xFF, mem := [(0x0100, 0x2A), (0xC0FF, 0x5E)] }
    (fun t => (t.a, t.f, t.h, t.l, t.pc)) = some (0x5E, 0x00, 0xC1, 0x00, 0x0101) := by decide

/-- 2.1: LD A,(HL-): borrow from H. -/
theorem test_ld_A_mHLd_1 : after { start with h := 0xC1, mem := [(0x0100, 0x3A), (0xC100, 0x6F)] }
    (fun t => (t.a, t.f, t.h, t.l, t.pc)) = some (0x6F, 0x00, 0xC0, 0xFF, 0x0101) := by decide

/-- 2.1: LD (a16),A. -/
theorem test_ld_ma16_A_1 : after { start with a := 0x77, mem := [(0x0100, 0xEA), (0x0102, 0xC1)] }
    (fun t => (t.f, t.pc, t.read 0xC100)) = some (0x00, 0x0103, 0x77) := by decide

/-- 2.1: LD A,(a16). -/
theorem test_ld_A_ma16_1 : after { start with mem := [(0x0100, 0xFA), (0x0102, 0xC1), (0xC100, 0x77)] }
    (fun t => (t.a, t.f, t.pc)) = some (0x77, 0x00, 0x0103) := by decide

/-- 2.1: LDH (a8),A: 0xFF00+0x80. -/
theorem test_ldh_ma8_A_1 : after { start with a := 0x01, mem := [(0x0100, 0xE0), (0x0101, 0x80)] }
    (fun t => (t.f, t.pc, t.read 0xFF80)) = some (0x00, 0x0102, 0x01) := by decide

/-- 2.1: LDH A,(a8) at 0xFFFF. -/
theorem test_ldh_A_ma8_1 : after { start with mem := [(0x0100, 0xF0), (0x0101, 0xFF), (0xFFFF, 0x1F)] }
    (fun t => (t.a, t.f, t.pc)) = some (0x1F, 0x00, 0x0102) := by decide

/-- 2.1: LD (C),A. -/
theorem test_ld_mC_A_1 : after { start with a := 0x02, c := 0x81, mem := [(0x0100, 0xE2)] }
    (fun t => (t.f, t.pc, t.read 0xFF81)) = some (0x00, 0x0101, 0x02) := by decide

/-- 2.1: LD A,(C). -/
theorem test_ld_A_mC_1 : after { start with c := 0x44, mem := [(0x0100, 0xF2), (0xFF44, 0x90)] }
    (fun t => (t.a, t.f, t.pc)) = some (0x90, 0x00, 0x0101) := by decide

/-- 2.1: LD BC,d16: little-endian. -/
theorem test_ld_BC_d16_1 : after { start with mem := [(0x0100, 0x01), (0x0101, 0x34), (0x0102, 0x12)] }
    (fun t => (t.f, t.b, t.c, t.pc)) = some (0x00, 0x12, 0x34, 0x0103) := by decide

/-- 2.1: LD SP,d16. -/
theorem test_ld_SP_d16_1 : after { start with mem := [(0x0100, 0x31), (0x0101, 0xFE), (0x0102, 0xFF)] }
    (fun t => (t.f, t.sp, t.pc)) = some (0x00, 0xFFFE, 0x0103) := by decide

/-- 2.1: LD (a16),SP: low byte first. -/
theorem test_ld_ma16_SP_1 : after { start with sp := 0xFFF8, mem := [(0x0100, 0x08), (0x0102, 0xC0)] }
    (fun t => (t.f, t.pc, t.read 0xC000, t.read 0xC001)) = some (0x00, 0x0103, 0xF8, 0xFF) := by decide

/-- 2.1: LD (a16),SP at 0xFFFF: second byte at 0000. -/
theorem test_ld_ma16_SP_2 : after { start with sp := 0xABCD, mem := [(0x0100, 0x08), (0x0101, 0xFF), (0x0102, 0xFF)] }
    (fun t => (t.f, t.pc, t.read 0x0000, t.read 0xFFFF)) = some (0x00, 0x0103, 0xAB, 0xCD) := by decide

/-- 2.1: LD SP,HL. -/
theorem test_ld_SP_HL_1 : after { start with h := 0xD0, mem := [(0x0100, 0xF9)] }
    (fun t => (t.f, t.sp, t.pc)) = some (0x00, 0xD000, 0x0101) := by decide

/-- 2.2: INC B: half carry, C kept. -/
theorem test_inc_B_1 : after { start with f := 0x10, b := 0x0F, mem := [(0x0100, 0x04)] }
    (fun t => (t.f, t.b, t.pc)) = some (0x30, 0x10, 0x0101) := by decide

/-- 2.2: INC A: wrap to 0, C not set. -/
theorem test_inc_A_1 : after { start with a := 0xFF, mem := [(0x0100, 0x3C)] }
    (fun t => (t.a, t.f, t.pc)) = some (0x00, 0xA0, 0x0101) := by decide

/-- 2.2: INC C: N cleared. -/
theorem test_inc_C_1 : after { start with f := 0x40, c := 0x7F, mem := [(0x0100, 0x0C)] }
    (fun t => (t.f, t.c, t.pc)) = some (0x20, 0x80, 0x0101) := by decide

/-- 2.2: INC (HL). -/
theorem test_inc_mHL_1 : after { start with h := 0xC0, mem := [(0x0100, 0x34), (0xC000, 0xFF)] }
    (fun t => (t.f, t.pc, t.read 0xC000)) = some (0xA0, 0x0101, 0x00) := by decide

/-- 2.2: DEC D: half borrow. -/
theorem test_dec_D_1 : after { start with d := 0x10, mem := [(0x0100, 0x15)] }
    (fun t => (t.f, t.d, t.pc)) = some (0x60, 0x0F, 0x0101) := by decide

/-- 2.2: DEC E: zero, C kept. -/
theorem test_dec_E_1 : after { start with f := 0x10, e := 0x01, mem := [(0x0100, 0x1D)] }
    (fun t => (t.f, t.e, t.pc)) = some (0xD0, 0x00, 0x0101) := by decide

/-- 2.2: DEC H: wrap to FF. -/
theorem test_dec_H_1 : after { start with mem := [(0x0100, 0x25)] }
    (fun t => (t.f, t.h, t.pc)) = some (0x60, 0xFF, 0x0101) := by decide

/-- 2.2: DEC (HL) to FF. -/
theorem test_dec_mHL_1 : after { start with h := 0xC0, mem := [(0x0100, 0x35)] }
    (fun t => (t.f, t.pc, t.read 0xC000)) = some (0x60, 0x0101, 0xFF) := by decide

/-- 2.2: INC BC: wraps, flags untouched. -/
theorem test_inc_BC_1 : after { start with f := 0xF0, b := 0xFF, c := 0xFF, mem := [(0x0100, 0x03)] }
    (fun t => (t.f, t.b, t.c, t.pc)) = some (0xF0, 0x00, 0x00, 0x0101) := by decide

/-- 2.2: DEC SP: wraps. -/
theorem test_dec_SP_1 : after { start with mem := [(0x0100, 0x3B)] }
    (fun t => (t.f, t.sp, t.pc)) = some (0x00, 0xFFFF, 0x0101) := by decide

/-- 2.2: INC DE: carry into D. -/
theorem test_inc_DE_1 : after { start with e := 0xFF, mem := [(0x0100, 0x13)] }
    (fun t => (t.f, t.d, t.e, t.pc)) = some (0x00, 0x01, 0x00, 0x0101) := by decide

/-- 2.2: DEC HL: borrow from H. -/
theorem test_dec_HL_1 : after { start with h := 0x01, mem := [(0x0100, 0x2B)] }
    (fun t => (t.f, t.h, t.l, t.pc)) = some (0x00, 0x00, 0xFF, 0x0101) := by decide

/-- 2.3: ADD A,B: Z, H, C. -/
theorem test_add_A_B_1 : after { start with a := 0x3A, b := 0xC6, mem := [(0x0100, 0x80)] }
    (fun t => (t.a, t.f, t.pc)) = some (0x00, 0xB0, 0x0101) := by decide

/-- 2.3: ADD A,A: 80+80. -/
theorem test_add_A_A_1 : after { start with a := 0x80, mem := [(0x0100, 0x87)] }
    (fun t => (t.a, t.f, t.pc)) = some (0x00, 0x90, 0x0101) := by decide

/-- 2.3: ADD A,d8: half carry only. -/
theorem test_add_A_d8_1 : after { start with a := 0x0F, mem := [(0x0100, 0xC6), (0x0101, 0x01)] }
    (fun t => (t.a, t.f, t.pc)) = some (0x10, 0x20, 0x0102) := by decide

/-- 2.3: ADC A,E with carry. -/
theorem test_adc_A_E_1 : after { start with a := 0xE1, f := 0x10, e := 0x0F, mem := [(0x0100, 0x8B)] }
    (fun t => (t.a, t.f, t.pc)) = some (0xF1, 0x20, 0x0101) := by decide

/-- 2.3: ADC A,0 with carry: wraps to 0. -/
theorem test_adc_A_d8_1 : after { start with a := 0xFF, f := 0x10, mem := [(0x0100, 0xCE)] }
    (fun t => (t.a, t.f, t.pc)) = some (0x00, 0xB0, 0x0102) := by decide

/-- 2.3: ADC half carry from carry-in. -/
theorem test_adc_A_d8_2 : after { start with a := 0x0F, f := 0x10, mem := [(0x0100, 0xCE)] }
    (fun t => (t.a, t.f, t.pc)) = some (0x10, 0x20, 0x0102) := by decide

/-- 2.3: SUB A: zero. -/
theorem test_sub_A_1 : after { start with a := 0x3E, mem := [(0x0100, 0x97)] }
    (fun t => (t.a, t.f, t.pc)) = some (0x00, 0xC0, 0x0101) := by decide

/-- 2.3: SUB B: half borrow. -/
theorem test_sub_B_1 : after { start with a := 0x10, b := 0x01, mem := [(0x0100, 0x90)] }
    (fun t => (t.a, t.f, t.pc)) = some (0x0F, 0x60, 0x0101) := by decide

/-- 2.3: SUB d8: borrow to FF. -/
theorem test_sub_d8_1 : after { start with mem := [(0x0100, 0xD6), (0x0101, 0x01)] }
    (fun t => (t.a, t.f, t.pc)) = some (0xFF, 0x70, 0x0102) := by decide

/-- 2.3: SBC A,H with carry. -/
theorem test_sbc_A_H_1 : after { start with a := 0x3B, f := 0x10, h := 0x2A, mem := [(0x0100, 0x9C)] }
    (fun t => (t.a, t.f, t.pc)) = some (0x10, 0x40, 0x0101) := by decide

/-- 2.3: SBC A,FF with carry: 00-FF-1. -/
theorem test_sbc_A_d8_1 : after { start with f := 0x10, mem := [(0x0100, 0xDE), (0x0101, 0xFF)] }
    (fun t => (t.f, t.pc)) = some (0xF0, 0x0102) := by decide

/-- 2.3: SBC: half borrow with carry-in. -/
theorem test_sbc_A_d8_2 : after { start with a := 0x10, f := 0x10, mem := [(0x0100, 0xDE), (0x0101, 0x0F)] }
    (fun t => (t.a, t.f, t.pc)) = some (0x00, 0xE0, 0x0102) := by decide

/-- 2.3: AND d8: H=1, C=0. -/
theorem test_and_d8_1 : after { start with a := 0x5A, f := 0x10, mem := [(0x0100, 0xE6), (0x0101, 0x3F)] }
    (fun t => (t.a, t.f, t.pc)) = some (0x1A, 0x20, 0x0102) := by decide

/-- 2.3: AND: zero result. -/
theorem test_and_d8_2 : after { start with a := 0x5A, mem := [(0x0100, 0xE6), (0x0101, 0xA5)] }
    (fun t => (t.a, t.f, t.pc)) = some (0x00, 0xA0, 0x0102) := by decide

/-- 2.3: XOR A: clears A. -/
theorem test_xor_A_1 : after { start with a := 0xFF, f := 0xF0, mem := [(0x0100, 0xAF)] }
    (fun t => (t.a, t.f, t.pc)) = some (0x00, 0x80, 0x0101) := by decide

/-- 2.3: XOR d8. -/
theorem test_xor_d8_1 : after { start with a := 0x0F, f := 0x70, mem := [(0x0100, 0xEE), (0x0101, 0xF0)] }
    (fun t => (t.a, t.f, t.pc)) = some (0xFF, 0x00, 0x0102) := by decide

/-- 2.3: OR A: zero test. -/
theorem test_or_A_1 : after { start with f := 0x30, mem := [(0x0100, 0xB7)] }
    (fun t => (t.f, t.pc)) = some (0x80, 0x0101) := by decide

/-- 2.3: OR (HL). -/
theorem test_or_mHL_1 : after { start with a := 0x5A, h := 0xC0, mem := [(0x0100, 0xB6), (0xC000, 0x0F)] }
    (fun t => (t.a, t.f, t.pc)) = some (0x5F, 0x00, 0x0101) := by decide

/-- 2.3: CP d8: A kept. -/
theorem test_cp_d8_1 : after { start with a := 0x3C, mem := [(0x0100, 0xFE), (0x0101, 0x40)] }
    (fun t => (t.f, t.pc)) = some (0x50, 0x0102) := by decide

/-- 2.3: CP equal. -/
theorem test_cp_d8_2 : after { start with a := 0x3C, mem := [(0x0100, 0xFE), (0x0101, 0x3C)] }
    (fun t => (t.f, t.pc)) = some (0xC0, 0x0102) := by decide

/-- 2.3: CP A. -/
theorem test_cp_A_1 : after { start with a := 0x42, mem := [(0x0100, 0xBF)] }
    (fun t => (t.f, t.pc)) = some (0xC0, 0x0101) := by decide

/-- 2.4: ADD HL,BC: H from bit 11, N cleared. -/
theorem test_add_HL_BC_1 : after { start with f := 0x40, b := 0x06, c := 0x05, h := 0x8A, l := 0x23, mem := [(0x0100, 0x09)] }
    (fun t => (t.f, t.h, t.l, t.pc)) = some (0x20, 0x90, 0x28, 0x0101) := by decide

/-- 2.4: ADD HL,HL: C, H; Z kept. -/
theorem test_add_HL_HL_1 : after { start with f := 0x80, h := 0x8A, l := 0x23, mem := [(0x0100, 0x29)] }
    (fun t => (t.f, t.h, t.l, t.pc)) = some (0xB0, 0x14, 0x46, 0x0101) := by decide

/-- 2.4: ADD HL,DE: wrap to 0000, Z not set. -/
theorem test_add_HL_DE_1 : after { start with e := 0x01, h := 0xFF, l := 0xFF, mem := [(0x0100, 0x19)] }
    (fun t => (t.f, t.h, t.l, t.pc)) = some (0x30, 0x00, 0x00, 0x0101) := by decide

/-- 2.4: ADD HL,SP. -/
theorem test_add_HL_SP_1 : after { start with h := 0x10, sp := 0x0FFF, mem := [(0x0100, 0x39)] }
    (fun t => (t.f, t.h, t.l, t.pc)) = some (0x00, 0x1F, 0xFF, 0x0101) := by decide

/-- 2.4: ADD SP,-2. -/
theorem test_add_SP_e8_1 : after { start with f := 0xC0, sp := 0xFFF8, mem := [(0x0100, 0xE8), (0x0101, 0xFE)] }
    (fun t => (t.f, t.sp, t.pc)) = some (0x30, 0xFFF6, 0x0102) := by decide

/-- 2.4: ADD SP,+1: H from bit 3. -/
theorem test_add_SP_e8_2 : after { start with sp := 0x000F, mem := [(0x0100, 0xE8), (0x0101, 0x01)] }
    (fun t => (t.f, t.sp, t.pc)) = some (0x20, 0x0010, 0x0102) := by decide

/-- 2.4: LD HL,SP+2. -/
theorem test_ld_HL_SPe8_1 : after { start with sp := 0xFFF8, mem := [(0x0100, 0xF8), (0x0101, 0x02)] }
    (fun t => (t.f, t.h, t.l, t.pc)) = some (0x00, 0xFF, 0xFA, 0x0102) := by decide

/-- 2.4: LD HL,SP-5: H and C from low byte. -/
theorem test_ld_HL_SPe8_2 : after { start with h := 0xFF, l := 0xFF, sp := 0x0005, mem := [(0x0100, 0xF8), (0x0101, 0xFB)] }
    (fun t => (t.f, t.h, t.l, t.pc)) = some (0x30, 0x00, 0x00, 0x0102) := by decide

/-- 2.5: RLCA. -/
theorem test_rlca_1 : after { start with a := 0x85, mem := [(0x0100, 0x07)] }
    (fun t => (t.a, t.f, t.pc)) = some (0x0B, 0x10, 0x0101) := by decide

/-- 2.5: RLCA of 0: Z cleared. -/
theorem test_rlca_2 : after { start with f := 0x80, mem := [(0x0100, 0x07)] }
    (fun t => (t.f, t.pc)) = some (0x00, 0x0101) := by decide

/-- 2.5: RRCA. -/
theorem test_rrca_1 : after { start with a := 0x85, mem := [(0x0100, 0x0F)] }
    (fun t => (t.a, t.f, t.pc)) = some (0xC2, 0x10, 0x0101) := by decide

/-- 2.5: RLA, C=0. -/
theorem test_rla_1 : after { start with a := 0x85, mem := [(0x0100, 0x17)] }
    (fun t => (t.a, t.f, t.pc)) = some (0x0A, 0x10, 0x0101) := by decide

/-- 2.5: RLA to 0: Z stays 0. -/
theorem test_rla_2 : after { start with a := 0x80, mem := [(0x0100, 0x17)] }
    (fun t => (t.a, t.f, t.pc)) = some (0x00, 0x10, 0x0101) := by decide

/-- 2.5: RRA, C=1. -/
theorem test_rra_1 : after { start with a := 0x85, f := 0x10, mem := [(0x0100, 0x1F)] }
    (fun t => (t.a, t.f, t.pc)) = some (0xC2, 0x10, 0x0101) := by decide

/-- 2.5: RLC B. -/
theorem test_rlc_B_1 : after { start with b := 0x85, mem := [(0x0100, 0xCB)] }
    (fun t => (t.f, t.b, t.pc)) = some (0x10, 0x0B, 0x0102) := by decide

/-- 2.5: RLC A of 0: Z=1. -/
theorem test_rlc_A_1 : after { start with f := 0x10, mem := [(0x0100, 0xCB), (0x0101, 0x07)] }
    (fun t => (t.f, t.pc)) = some (0x80, 0x0102) := by decide

/-- 2.5: RRC C. -/
theorem test_rrc_C_1 : after { start with c := 0x01, mem := [(0x0100, 0xCB), (0x0101, 0x09)] }
    (fun t => (t.f, t.c, t.pc)) = some (0x10, 0x80, 0x0102) := by decide

/-- 2.5: RL L to 0. -/
theorem test_rl_L_1 : after { start with l := 0x80, mem := [(0x0100, 0xCB), (0x0101, 0x15)] }
    (fun t => (t.f, t.l, t.pc)) = some (0x90, 0x00, 0x0102) := by decide

/-- 2.5: RL D: carry in. -/
theorem test_rl_D_1 : after { start with f := 0x10, mem := [(0x0100, 0xCB), (0x0101, 0x12)] }
    (fun t => (t.f, t.d, t.pc)) = some (0x00, 0x01, 0x0102) := by decide

/-- 2.5: RR A to 0. -/
theorem test_rr_A_1 : after { start with a := 0x01, mem := [(0x0100, 0xCB), (0x0101, 0x1F)] }
    (fun t => (t.a, t.f, t.pc)) = some (0x00, 0x90, 0x0102) := by decide

/-- 2.5: RR E: carry into bit 7. -/
theorem test_rr_E_1 : after { start with f := 0x10, mem := [(0x0100, 0xCB), (0x0101, 0x1B)] }
    (fun t => (t.f, t.e, t.pc)) = some (0x00, 0x80, 0x0102) := by decide

/-- 2.5: SLA D: old C ignored. -/
theorem test_sla_D_1 : after { start with f := 0x10, d := 0x85, mem := [(0x0100, 0xCB), (0x0101, 0x22)] }
    (fun t => (t.f, t.d, t.pc)) = some (0x10, 0x0A, 0x0102) := by decide

/-- 2.5: SRA E: bit 7 kept. -/
theorem test_sra_E_1 : after { start with e := 0x85, mem := [(0x0100, 0xCB), (0x0101, 0x2B)] }
    (fun t => (t.f, t.e, t.pc)) = some (0x10, 0xC2, 0x0102) := by decide

/-- 2.5: SRA B to 0. -/
theorem test_sra_B_1 : after { start with b := 0x01, mem := [(0x0100, 0xCB), (0x0101, 0x28)] }
    (fun t => (t.f, t.b, t.pc)) = some (0x90, 0x00, 0x0102) := by decide

/-- 2.5: SWAP H: C cleared. -/
theorem test_swap_H_1 : after { start with f := 0x10, h := 0x85, mem := [(0x0100, 0xCB), (0x0101, 0x34)] }
    (fun t => (t.f, t.h, t.pc)) = some (0x00, 0x58, 0x0102) := by decide

/-- 2.5: SWAP A of 0. -/
theorem test_swap_A_1 : after { start with mem := [(0x0100, 0xCB), (0x0101, 0x37)] }
    (fun t => (t.f, t.pc)) = some (0x80, 0x0102) := by decide

/-- 2.5: SRL (HL). -/
theorem test_srl_mHL_1 : after { start with h := 0xC0, mem := [(0x0100, 0xCB), (0x0101, 0x3E), (0xC000, 0x85)] }
    (fun t => (t.f, t.pc, t.read 0xC000)) = some (0x10, 0x0102, 0x42) := by decide

/-- 2.5: RLC (HL). -/
theorem test_rlc_mHL_1 : after { start with h := 0xC0, mem := [(0x0100, 0xCB), (0x0101, 0x06), (0xC000, 0x80)] }
    (fun t => (t.f, t.pc, t.read 0xC000)) = some (0x10, 0x0102, 0x01) := by decide

/-- 2.6: BIT 7,(HL): bit 0 so Z=1, C kept. -/
theorem test_bit_7_mHL_1 : after { start with f := 0x10, h := 0xC0, mem := [(0x0100, 0xCB), (0x0101, 0x7E), (0xC000, 0x7F)] }
    (fun t => (t.f, t.pc)) = some (0xB0, 0x0102) := by decide

/-- 2.6: BIT 7,(HL): bit 1. -/
theorem test_bit_7_mHL_2 : after { start with f := 0x10, h := 0xC0, mem := [(0x0100, 0xCB), (0x0101, 0x7E), (0xC000, 0x80)] }
    (fun t => (t.f, t.pc)) = some (0x30, 0x0102) := by decide

/-- 2.6: BIT 0,A: N cleared. -/
theorem test_bit_0_A_1 : after { start with a := 0x01, f := 0x50, mem := [(0x0100, 0xCB), (0x0101, 0x47)] }
    (fun t => (t.f, t.pc)) = some (0x30, 0x0102) := by decide

/-- 2.6: BIT 0,B: Z. -/
theorem test_bit_0_B_1 : after { start with b := 0xFE, mem := [(0x0100, 0xCB), (0x0101, 0x40)] }
    (fun t => (t.f, t.pc)) = some (0xA0, 0x0102) := by decide

/-- 2.6: RES 0,A: flags untouched. -/
theorem test_res_0_A_1 : after { start with a := 0xFF, f := 0xF0, mem := [(0x0100, 0xCB), (0x0101, 0x87)] }
    (fun t => (t.a, t.f, t.pc)) = some (0xFE, 0xF0, 0x0102) := by decide

/-- 2.6: RES 7,(HL). -/
theorem test_res_7_mHL_1 : after { start with h := 0xC0, mem := [(0x0100, 0xCB), (0x0101, 0xBE), (0xC000, 0x80)] }
    (fun t => (t.f, t.pc, t.read 0xC000)) = some (0x00, 0x0102, 0x00) := by decide

/-- 2.6: SET 7,B. -/
theorem test_set_7_B_1 : after { start with mem := [(0x0100, 0xCB), (0x0101, 0xF8)] }
    (fun t => (t.f, t.b, t.pc)) = some (0x00, 0x80, 0x0102) := by decide

/-- 2.6: SET 0,(HL): already set, written unchanged. -/
theorem test_set_0_mHL_1 : after { start with h := 0xC0, mem := [(0x0100, 0xCB), (0x0101, 0xC6), (0xC000, 0x01)] }
    (fun t => (t.f, t.pc)) = some (0x00, 0x0102) := by decide

/-- 2.7: JR -2: self loop. -/
theorem test_jr_1 : after { start with mem := [(0x0100, 0x18), (0x0101, 0xFE)] }
    (fun t => (t.f, t.pc)) = some (0x00, 0x0100) := by decide

/-- 2.7: JR +127. -/
theorem test_jr_2 : after { start with mem := [(0x0100, 0x18), (0x0101, 0x7F)] }
    (fun t => (t.f, t.pc)) = some (0x00, 0x0181) := by decide

/-- 2.7: JR NZ,-6 taken. -/
theorem test_jr_NZ_1 : after { start with mem := [(0x0100, 0x20), (0x0101, 0xFA)] }
    (fun t => (t.f, t.pc)) = some (0x00, 0x00FC) := by decide

/-- 2.7: JR NZ not taken. -/
theorem test_jr_NZ_2 : after { start with f := 0x80, mem := [(0x0100, 0x20), (0x0101, 0xFA)] }
    (fun t => (t.f, t.pc)) = some (0x80, 0x0102) := by decide

/-- 2.7: JR Z taken. -/
theorem test_jr_Z_1 : after { start with f := 0x80, mem := [(0x0100, 0x28), (0x0101, 0x10)] }
    (fun t => (t.f, t.pc)) = some (0x80, 0x0112) := by decide

/-- 2.7: JR NC not taken. -/
theorem test_jr_NC_1 : after { start with f := 0x10, mem := [(0x0100, 0x30), (0x0101, 0x10)] }
    (fun t => (t.f, t.pc)) = some (0x10, 0x0102) := by decide

/-- 2.7: JR C taken. -/
theorem test_jr_C_1 : after { start with f := 0x10, mem := [(0x0100, 0x38), (0x0101, 0x10)] }
    (fun t => (t.f, t.pc)) = some (0x10, 0x0112) := by decide

/-- 2.7: JP a16. -/
theorem test_jp_1 : after { start with mem := [(0x0100, 0xC3), (0x0101, 0x50), (0x0102, 0x01)] }
    (fun t => (t.f, t.pc)) = some (0x00, 0x0150) := by decide

/-- 2.7: JP C taken. -/
theorem test_jp_C_1 : after { start with f := 0x10, mem := [(0x0100, 0xDA), (0x0102, 0x20)] }
    (fun t => (t.f, t.pc)) = some (0x10, 0x2000) := by decide

/-- 2.7: JP NC not taken. -/
theorem test_jp_NC_1 : after { start with f := 0x10, mem := [(0x0100, 0xD2), (0x0102, 0x20)] }
    (fun t => (t.f, t.pc)) = some (0x10, 0x0103) := by decide

/-- 2.7: JP HL. -/
theorem test_jp_HL_1 : after { start with h := 0x40, mem := [(0x0100, 0xE9)] }
    (fun t => (t.f, t.pc)) = some (0x00, 0x4000) := by decide

/-- 2.7: CALL a16: return address 0103 pushed. -/
theorem test_call_1 : after { start with sp := 0xFFFE, mem := [(0x0100, 0xCD), (0x0102, 0x30)] }
    (fun t => (t.f, t.sp, t.pc, t.read 0xFFFC, t.read 0xFFFD)) = some (0x00, 0xFFFC, 0x3000, 0x03, 0x01) := by decide

/-- 2.7: CALL with SP=0001: stack wraps. -/
theorem test_call_2 : after { start with sp := 0x0001, mem := [(0x0100, 0xCD), (0x0102, 0x30)] }
    (fun t => (t.f, t.sp, t.pc, t.read 0x0000, t.read 0xFFFF)) = some (0x00, 0xFFFF, 0x3000, 0x01, 0x03) := by decide

/-- 2.7: CALL Z taken. -/
theorem test_call_Z_1 : after { start with f := 0x80, sp := 0xFFFE, mem := [(0x0100, 0xCC), (0x0102, 0x30)] }
    (fun t => (t.f, t.sp, t.pc, t.read 0xFFFC, t.read 0xFFFD)) = some (0x80, 0xFFFC, 0x3000, 0x03, 0x01) := by decide

/-- 2.7: CALL NZ not taken. -/
theorem test_call_NZ_1 : after { start with f := 0x80, sp := 0xFFFE, mem := [(0x0100, 0xC4), (0x0102, 0x30)] }
    (fun t => (t.f, t.pc)) = some (0x80, 0x0103) := by decide

/-- 2.7: RET. -/
theorem test_ret_1 : after { start with sp := 0xFFFC, mem := [(0x0100, 0xC9), (0xFFFC, 0x03), (0xFFFD, 0x01)] }
    (fun t => (t.f, t.sp, t.pc)) = some (0x00, 0xFFFE, 0x0103) := by decide

/-- 2.7: RET C taken. -/
theorem test_ret_C_1 : after { start with f := 0x10, sp := 0xFFFC, mem := [(0x0100, 0xD8), (0xFFFC, 0x03), (0xFFFD, 0x01)] }
    (fun t => (t.f, t.sp, t.pc)) = some (0x10, 0xFFFE, 0x0103) := by decide

/-- 2.7: RET NC not taken. -/
theorem test_ret_NC_1 : after { start with f := 0x10, sp := 0xFFFC, mem := [(0x0100, 0xD0), (0xFFFC, 0x03), (0xFFFD, 0x01)] }
    (fun t => (t.f, t.pc)) = some (0x10, 0x0101) := by decide

/-- 2.7: RETI: IME=1 at once. -/
theorem test_reti_1 : after { start with sp := 0xFFFC, mem := [(0x0100, 0xD9), (0xFFFC, 0x50), (0xFFFD, 0x02)] }
    (fun t => (t.f, t.sp, t.pc, t.ime)) = some (0x00, 0xFFFE, 0x0250, true) := by decide

/-- 2.7: RST 38H. -/
theorem test_rst_38_1 : after { start with sp := 0xFFFE, mem := [(0x0100, 0xFF)] }
    (fun t => (t.f, t.sp, t.pc, t.read 0xFFFC, t.read 0xFFFD)) = some (0x00, 0xFFFC, 0x0038, 0x01, 0x01) := by decide

/-- 2.7: RST 00H. -/
theorem test_rst_00_1 : after { start with sp := 0xFFFE, pc := 0x1234, mem := [(0x1234, 0xC7)] }
    (fun t => (t.f, t.sp, t.pc, t.read 0xFFFC, t.read 0xFFFD)) = some (0x00, 0xFFFC, 0x0000, 0x35, 0x12) := by decide

/-- 2.7: PUSH BC. -/
theorem test_push_BC_1 : after { start with b := 0x12, c := 0x34, sp := 0xFFFE, mem := [(0x0100, 0xC5)] }
    (fun t => (t.f, t.sp, t.pc, t.read 0xFFFC, t.read 0xFFFD)) = some (0x00, 0xFFFC, 0x0101, 0x34, 0x12) := by decide

/-- 2.7: PUSH AF. -/
theorem test_push_AF_1 : after { start with a := 0x12, f := 0xB0, sp := 0xFFFE, mem := [(0x0100, 0xF5)] }
    (fun t => (t.f, t.sp, t.pc, t.read 0xFFFC, t.read 0xFFFD)) = some (0xB0, 0xFFFC, 0x0101, 0xB0, 0x12) := by decide

/-- 2.7: POP BC. -/
theorem test_pop_BC_1 : after { start with sp := 0xFFFC, mem := [(0x0100, 0xC1), (0xFFFC, 0x34), (0xFFFD, 0x12)] }
    (fun t => (t.f, t.b, t.c, t.sp, t.pc)) = some (0x00, 0x12, 0x34, 0xFFFE, 0x0101) := by decide

/-- 2.7: POP HL at SP=FFFF: second byte at 0000. -/
theorem test_pop_HL_1 : after { start with sp := 0xFFFF, mem := [(0x0000, 0x12), (0x0100, 0xE1), (0xFFFF, 0x34)] }
    (fun t => (t.f, t.h, t.l, t.sp, t.pc)) = some (0x00, 0x12, 0x34, 0x0001, 0x0101) := by decide

/-- 2.7: POP AF: low nibble of F masked. -/
theorem test_pop_AF_1 : after { start with sp := 0xFFFC, mem := [(0x0100, 0xF1), (0xFFFC, 0xFF), (0xFFFD, 0x12)] }
    (fun t => (t.a, t.f, t.sp, t.pc)) = some (0x12, 0xF0, 0xFFFE, 0x0101) := by decide

/-- 2.8: NOP. -/
theorem test_nop_1 : after { start with mem := [] }
    (fun t => (t.f, t.pc)) = some (0x00, 0x0101) := by decide

/-- 2.8: NOP at FFFF: PC wraps. -/
theorem test_nop_2 : after { start with pc := 0xFFFF, mem := [] }
    (fun t => (t.f, t.pc)) = some (0x00, 0x0000) := by decide

/-- 2.8: HALT, no interrupt pending. -/
theorem test_halt_1 : after { start with ime := true, mem := [(0x0100, 0x76)] }
    (fun t => (t.f, t.pc, t.mode)) = some (0x00, 0x0101, .halted) := by decide

/-- 2.8: HALT with IME=0, none pending. -/
theorem test_halt_2 : after { start with mem := [(0x0100, 0x76)] }
    (fun t => (t.f, t.pc, t.mode)) = some (0x00, 0x0101, .halted) := by decide

/-- 2.8: STOP. -/
theorem test_stop_1 : after { start with mem := [(0x0100, 0x10)] }
    (fun t => (t.f, t.pc, t.mode)) = some (0x00, 0x0102, .stopped) := by decide

/-- 2.8: DI. -/
theorem test_di_1 : after { start with ime := true, mem := [(0x0100, 0xF3)] }
    (fun t => (t.f, t.pc, t.ime)) = some (0x00, 0x0101, false) := by decide

/-- 2.8: DI cancels a pending EI. -/
theorem test_di_2 : after { start with eiPending := true, mem := [(0x0100, 0xF3)] }
    (fun t => (t.f, t.pc, t.eiPending)) = some (0x00, 0x0101, false) := by decide

/-- 2.8: EI. -/
theorem test_ei_1 : after { start with mem := [(0x0100, 0xFB)] }
    (fun t => (t.f, t.pc, t.eiPending)) = some (0x00, 0x0101, true) := by decide

/-- 2.8: DAA after 45+38. -/
theorem test_daa_1 : after { start with a := 0x7D, mem := [(0x0100, 0x27)] }
    (fun t => (t.a, t.f, t.pc)) = some (0x83, 0x00, 0x0101) := by decide

/-- 2.8: DAA: 9A -> 00, C. -/
theorem test_daa_2 : after { start with a := 0x9A, mem := [(0x0100, 0x27)] }
    (fun t => (t.a, t.f, t.pc)) = some (0x00, 0x90, 0x0101) := by decide

/-- 2.8: CPL. -/
theorem test_cpl_1 : after { start with a := 0x35, mem := [(0x0100, 0x2F)] }
    (fun t => (t.a, t.f, t.pc)) = some (0xCA, 0x60, 0x0101) := by decide

/-- 2.8: CPL to 0: Z not updated. -/
theorem test_cpl_2 : after { start with a := 0xFF, f := 0x80, mem := [(0x0100, 0x2F)] }
    (fun t => (t.a, t.f, t.pc)) = some (0x00, 0xE0, 0x0101) := by decide

/-- 2.8: SCF. -/
theorem test_scf_1 : after { start with f := 0xE0, mem := [(0x0100, 0x37)] }
    (fun t => (t.f, t.pc)) = some (0x90, 0x0101) := by decide

/-- 2.8: CCF: C 1 -> 0, H cleared. -/
theorem test_ccf_1 : after { start with f := 0x70, mem := [(0x0100, 0x3F)] }
    (fun t => (t.f, t.pc)) = some (0x00, 0x0101) := by decide

/-- 2.8: CCF: C 0 -> 1. -/
theorem test_ccf_2 : after { start with f := 0x80, mem := [(0x0100, 0x3F)] }
    (fun t => (t.f, t.pc)) = some (0x90, 0x0101) := by decide

/-- 2.8: unused byte: fault, nothing changes. -/
theorem test_unused_D3_1 : after { start with pc := 0x0200, mem := [(0x0200, 0xD3)] }
    (fun t => (t.fault, t.pc)) = some (some ⟨.illegalOpcode, 0x0200, 0xD3⟩, 0x0200) := by decide

/-- 2.8: unused byte FD. -/
theorem test_unused_FD_1 : after { start with pc := 0x0200, ime := true, mem := [(0x0200, 0xFD)] }
    (fun t => (t.fault, t.pc)) = some (some ⟨.illegalOpcode, 0x0200, 0xFD⟩, 0x0200) := by decide

/-- 2.9: dispatch of interrupt 0 before the NOP. -/
theorem test_irq_1 : after { start with sp := 0xFFFE, ime := true, mem := [(0xFFFC, 0xEE), (0xFFFD, 0xEE)], irqInputs := [some .vblank] }
    (fun t => (t.sp, t.pc, t.ime, t.read 0xFFFC, t.read 0xFFFD)) = some (0xFFFC, 0x0040, false, 0x00, 0x01) := by decide

/-- 2.9: dispatch of interrupt 4 (Joypad). -/
theorem test_irq_2 : after { start with sp := 0xFFFE, ime := true, mem := [(0xFFFC, 0xEE), (0xFFFD, 0xEE)], irqInputs := [some .joypad] }
    (fun t => (t.sp, t.pc, t.ime, t.read 0xFFFC, t.read 0xFFFD)) = some (0xFFFC, 0x0060, false, 0x00, 0x01) := by decide

/-- 2.9: IME=0: interrupt ignored, NOP executes. -/
theorem test_irq_3 : after { start with sp := 0xFFFE, mem := [(0xFFFC, 0xEE), (0xFFFD, 0xEE)], irqInputs := [some .vblank] }
    (fun t => (t.pc)) = some (0x0101) := by decide

/-- 2.9: halted, Timer pending, IME=1: wake and dispatch. -/
theorem test_irq_4 : after { start with sp := 0xFFFE, ime := true, mode := .halted, mem := [(0xFFFC, 0xEE), (0xFFFD, 0xEE)], irqInputs := [some .timer] }
    (fun t => (t.sp, t.pc, t.ime, t.mode, t.read 0xFFFC, t.read 0xFFFD)) = some (0xFFFC, 0x0050, false, .running, 0x00, 0x01) := by decide

/-- 2.9: halted, IME=0: wake, execute next instruction. -/
theorem test_irq_5 : after { start with sp := 0xFFFE, mode := .halted, mem := [(0xFFFC, 0xEE), (0xFFFD, 0xEE)], irqInputs := [some .timer] }
    (fun t => (t.pc, t.mode)) = some (0x0101, .running) := by decide

/-- 2.9: prefixed instruction executes whole. -/
theorem test_rlc_B_2 : after { start with sp := 0xFFFE, ime := true, mem := [(0x0100, 0xCB), (0xFFFC, 0xEE), (0xFFFD, 0xEE)], irqInputs := [none] }
    (fun t => (t.f, t.pc)) = some (0x80, 0x0102) := by decide

/-! ### Reset (10_state.md R40, 70_reset_and_hazards.md R206) -/

theorem test_reset : (State.reset.pc, State.reset.ime, State.reset.eiPending, State.reset.mode, State.reset.fault) =
    (0x0000, false, false, .running, none) := by decide

/-- Memory 00 everywhere runs NOPs. -/
theorem test_reset_runs_nops : after State.reset (fun t => (t.pc, t.sp, t.f)) = some (0x0001, 0x0000, 0x00) := by decide

/-- A word of a row placed at the fetch runs as the first instruction after reset. -/
theorem test_withFetchWord : after (State.reset.withFetchWord 8 0x3C) (fun t => (t.a, t.pc)) = some (0x01, 0x0001) ∧
    after (State.reset.withFetchWord 16 0xCBC7) (fun t => (t.a, t.pc)) = some (0x01, 0x0002) ∧
    after (State.reset.withFetchWord 8 0xC3) (fun t => t.pc) = some 0x0000 := by decide

/-- 10_state.md R25: `get8` reads F too, and `set8` of another cell leaves it. -/
theorem test_get8_F : ({ start with f := 0xB0 } : State).get8 .F = 0xB0 ∧ (({ start with f := 0xB0 } : State).set8 .A 0x12).get8 .F = 0xB0 ∧
    (start.set8 .L 0x34).get8 (.reg .L) = 0x34 := by decide

/-! ### Witnesses: each obligation's hypotheses are met -/

/-- A state at 0100 with these bytes there. -/
def at100 (w0 w1 w2 : Byte) : State := ((start.poke 0x0100 w0).poke 0x0101 w1).poke 0x0102 w2

/-- ResetMeetsTheInvariants. -/
theorem witness_reset_memory : Memory.wf [(0x0000, 0x01), (0xFFFF, 0xFF)] ∧ ¬Memory.wf [(0x0000, 0x00)] ∧
    ¬Memory.wf [(0x0001, 0x01), (0x0000, 0x01)] := by decide

/-- StepKeepsInvariant: a store of a non-zero byte over a zero one, and of zero over a listed one. -/
theorem witness_step_inv : (at100 0x70 0 0).Inv ∧ (∃ t, step { at100 0x70 0 0 with b := 0x5A, h := 0xC0 } = .next t ∧ t.Inv) ∧
    (∃ t, step { at100 0x70 0 0 with h := 0x01 } = .next t ∧ t.Inv ∧ t.mem = []) :=
  ⟨by decide, ⟨_, rfl, by decide⟩, ⟨_, rfl, by decide, by decide⟩⟩

/-- StepRecordsTrueFaults and FaultsArePrecise: both kinds of record. -/
theorem witness_faults : after (at100 0xD3 0 0) (fun t => t.fault) = some (some ⟨.illegalOpcode, 0x0100, 0xD3⟩) ∧
    after { at100 0x76 0 0 with irqInputs := [some .timer] } (fun t => t.fault) = some (some ⟨.haltBug, 0x0100, 0x76⟩) := by
  decide

/-- FaultsArePrecise from a halted core (log 9): the record is all that changes. -/
theorem witness_precise_halted : step { at100 0xD3 0 0 with mode := .halted, eiPending := true, irqInputs := [some .timer] } =
    .next { at100 0xD3 0 0 with mode := .halted, eiPending := true, irqInputs := [some .timer],
                                fault := some ⟨.illegalOpcode, 0x0100, 0xD3⟩ } := by rfl

/-- RecordedFaultEndsTheRun: both kinds. -/
theorem witness_recorded : step { start with fault := some ⟨.illegalOpcode, 0x0100, 0xD3⟩ } = .fault (.illegalOpcode 0x0100 0xD3) ∧
    step { start with fault := some ⟨.haltBug, 0x0100, 0x76⟩ } = .refused (.haltBug 0x0100) := ⟨rfl, rfl⟩

/-- EveryInstructionAnswersNext, second clause: running, and halted with nothing pending. -/
theorem witness_can_go_on : (start.fault = none ∧ start.mode ≠ .stopped) ∧
    (∃ t, step { start with mode := .halted } = .next t) := ⟨by decide, _, rfl⟩

/-- DecodeInvertsEncode: a three-byte instruction and an unused byte. -/
theorem witness_wellFormed : (Instr.call 0xABCD).wellFormed = true ∧ decode (encode (.call 0xABCD) ++ [0x76]) = .ok (.call 0xABCD, [0x76]) ∧
    decode (encode .unused_E4 ++ []) = .ok (.unused_E4, []) := ⟨by decide, rfl, rfl⟩

/-- EncodeInvertsDecode: lists of one, two and three bytes. -/
theorem witness_decodes : decode [0x76, 0x01] = .ok (.halt, [0x01]) ∧ decode [0x10, 0xFF] = .ok (.stop 0xFF, []) ∧
    decode [0xC3, 0x50, 0x01] = .ok (.jp 0x0150, []) := ⟨rfl, rfl, rfl⟩

/-- DecoderReadsOnlyTheInstruction: both lengths. -/
theorem witness_lengths : fetchLength 0x76 = 1 ∧ fetchLength 0xCB = 2 ∧ fetchLength 0x10 = 2 ∧ fetchLength 0x08 = 3 := by decide

/-- ExactlyElevenBytesAreUnused and UnusedBytesRecordIllegalOpcode: the first and last of the eleven. -/
theorem witness_unused : 0xD3#8 ∈ unusedBytes ∧ 0xFD#8 ∈ unusedBytes ∧ 0xCB#8 ∉ unusedBytes := by decide

/-- StepRunsTheDecodedInstruction: running with an interrupt pending and IME 0, and halted with the same. -/
theorem witness_step_runs : ({ at100 0x3C 0 0 with irqInputs := [some .timer] } : State).canStep ∧
    ({ at100 0x3C 0 0 with mode := .halted, irqInputs := [some .timer] } : State).canStep ∧
    decode ((at100 0x3C 0 0).readBytes 0x0100 (fetchLength 0x3C)).1 = .ok (.inc_A, []) ∧
    decode ((at100 0xC3 0x50 0x01).readBytes 0x0100 (fetchLength 0xC3)).1 = .ok (.jp 0x0150, []) ∧
    (∃ t, exec .inc_A (at100 0x3C 0 0).promoteEi = .next t) := ⟨by decide, by decide, rfl, rfl, _, rfl⟩

/-- InterruptIsAcceptedExactlyWhenAllowed: an acknowledgement, and none with IME 0. -/
theorem witness_accepts : after { start with ime := true, irqInputs := [some .serial] } (fun t => t.acks) = some [.serial] ∧
    after { start with irqInputs := [some .serial] } (fun t => t.acks) = some [] := by decide

/-- DispatchSavesPcAndJumps, from a halted core with SP = 0001: the stack wraps. -/
theorem witness_dispatch : after { start with ime := true, mode := .halted, sp := 0x0001, irqInputs := [some .lcdStat] }
    (fun t => (t.pc, t.sp, t.read 0x0000, t.read 0xFFFF)) = some (0x0048, 0xFFFF, 0x01, 0x00) := by decide

/-- NoInterruptBetweenEiAndTheNextInstruction: the state EI leaves, with an interrupt pending, before NOP and before DI. -/
theorem witness_after_ei : after { at100 0x00 0 0 with eiPending := true, irqInputs := [some .vblank] }
      (fun t => (t.pc, t.ime, t.eiPending, t.acks)) = some (0x0101, true, false, []) ∧
    after { at100 0xF3 0 0 with eiPending := true, irqInputs := [some .vblank] }
      (fun t => (t.pc, t.ime, t.eiPending, t.acks)) = some (0x0101, false, false, []) := by decide

/-- HaltedCoreHoldsUntilAnInterrupt: held, and woken without acceptance. -/
theorem witness_halted : after { start with mode := .halted, ime := true, irqInputs := [none, some .timer] }
      (fun t => (t.pc, t.mode, t.irqInputs)) = some (0x0100, .halted, [some .timer]) ∧
    after { at100 0x3C 0 0 with mode := .halted, irqInputs := [some .timer] }
      (fun t => (t.pc, t.mode, t.a, t.fault)) = some (0x0101, .running, 0x01, none) := by decide

/-- HaltSetsModeOrIsRefused: IME 1 with an interrupt pending, and IME 0 with none (IME 0 with one is `witness_faults`). -/
theorem witness_halt : (∃ t, exec .halt { start with ime := true, irqInputs := [some .timer] } = .next t ∧ t.mode = .halted) ∧
    (∃ t, exec .halt start = .next t ∧ t.mode = .halted) := ⟨⟨_, rfl, rfl⟩, ⟨_, rfl, rfl⟩⟩

/-- StopEndsTheRun, second clause, with an interrupt pending. -/
theorem witness_stopped : step { start with mode := .stopped, ime := true, irqInputs := [some .joypad] } = .fault .stopped := rfl

/-- RegisterMemoryAndImmediateLoads: the pairs next to (6, 6). -/
theorem witness_loads : ¬(Oct.o6 = .o6 ∧ Oct.o7 = .o6) ∧ ¬(Oct.o5 = .o6 ∧ Oct.o6 = .o6) ∧
    opByte .q1 .o6 .o7 = 0x77 ∧ opByte .q1 .o5 .o6 = 0x6E := by decide

/-- IncThenDecRestoresTheRegister: A = FF, which wraps. -/
theorem witness_inc_dec : Oct.o7 ≠ .o6 ∧ opByte .q0 .o7 .o4 = 0x3C ∧
    after { at100 0x3C 0 0 with a := 0xFF } (fun t => t.a) = some 0x00 := by decide

/-- PushAfThenPopAfIsIdempotent and StoresGoOnlyWhereTheInstructionSays: SP = 0001, where the stack wraps. -/
theorem witness_push_pop : ({ at100 0xF5 0xF1 0 with a := 0x12, f := 0xB0, sp := 0x0001 } : State).Inv ∧
    (start.kindAt 0x0000 = .ram ∧ start.kindAt 0xFFFF = .ram ∧ ¬start.busStores 0x0100) ∧
    storeAddrs 0xF5 0xF1 0 { at100 0xF5 0xF1 0 with a := 0x12, f := 0xB0, sp := 0x0001 } = [0x0000, 0xFFFF] ∧
    after { at100 0xF5 0xF1 0 with a := 0x12, f := 0xB0, sp := 0x0001 }
      (fun t => (t.sp, t.read 0x0000, t.read 0xFFFF, t.read 0x0100)) = some (0xFFFF, 0x12, 0xB0, 0xF5) :=
  ⟨by decide, ⟨by decide, by decide, fun ⟨_, h, _⟩ => absurd h List.not_mem_nil⟩, by decide, by decide⟩

/-- CallThenRetReturns. -/
theorem witness_call_ret : Memory.wf (at100 0xCD 0x00 0x30).mem ∧ start.kindAt (start.sp - 1) = .ram ∧
    start.kindAt (start.sp - 2) = .ram := by decide

/-- DaaMakesDecimalSumsAndDifferences at the ends of its range: 99 + 99 and 00 - 99. -/
theorem witness_bcd : (99 < 100 ∧ bcd 99 = 0x99 ∧ bcd 0 = 0x00) ∧
    after { at100 0xC6 0x99 0x27 with a := bcd 99 } (fun t => (t.a, t.f)) = some (0x32, 0x30) ∧
    after { at100 0xD6 0x99 0x27 with a := bcd 0 } (fun t => (t.a, t.f)) = some (0x67, 0x70) := by decide

/-- FlagsByteIsItsFourFlags, last clause. -/
theorem witness_low_nibble : ({ start with f := 0xF0 } : State).f &&& 0x0F#8 = 0#8 := by decide

/-- WordAccessIsTwoByteAccesses at FFFF, whose second byte is at 0000. -/
theorem witness_word : Memory.wf start.mem ∧ (start.kindAt 0xFFFF = .ram ∧ start.kindAt 0x0000 = .ram) ∧ (0x8000#16 ≠ 0xFFFF#16 ∧ 0x8000#16 ≠ 0xFFFF#16 + 1) ∧
    (start.write16 0xFFFF 0xABCD).mem = [(0x0000, 0xAB), (0xFFFF, 0xCD)] := by decide

/-- CanonicalMemoriesWithEqualBytesAreEqual: two memories made by the same writes in another order. -/
theorem witness_same_bytes : ((start.write 0xC000 0x01).write 0x0000 0x02).mem = ((start.write 0x0000 0x02).write 0xC000 0x01).mem ∧
    Memory.wf ((start.write 0xC000 0x01).write 0x0000 0x02).mem := by decide

/-- RegistersWrittenAreThoseOfTheTable: LD A,(HL+) writes A, H and L; CP writes no 8-bit register; neither writes SP. -/
theorem witness_registers : Reg8.B ∉ regsWritten 0x2A 0 ∧ Reg8.A ∈ regsWritten 0x2A 0 ∧ Reg8.A ∉ regsWritten 0xB8 0 ∧
    spWritten 0x2A = false ∧ spWritten 0xE8 = true ∧ (∃ t, exec (decodeWindow 0x2A 0 0) start = .next t) :=
  ⟨by decide, by decide, by decide, by decide, by decide, _, rfl⟩

/-- FlagsFollowTheSummaryTable: rows of SCF, of BIT and of POP AF. -/
theorem witness_flag_rows : flagRow 0x37 0 = ⟨.kept, .forced false, .forced false, .forced true⟩ ∧
    flagRow 0xCB 0x7E = ⟨.computed, .forced false, .forced true, .kept⟩ ∧
    flagRow 0xF1 0 = ⟨.computed, .computed, .computed, .computed⟩ ∧ (∃ t, exec (decodeWindow 0xF1 0 0) start = .next t) :=
  ⟨by decide, by decide, by decide, _, rfl⟩

/-- ControlCellsChangeOnlyByTheirInstructions: NOP is none of the excepted opcodes, and DI, RETI, HALT, STOP are. -/
theorem witness_control : (0x00#8 ≠ 0xF3#8 ∧ 0x00#8 ≠ 0xD9#8 ∧ 0x00#8 ≠ 0xFB#8 ∧ 0x00#8 ≠ 0x76#8 ∧ 0x00#8 ≠ 0x10#8 ∧ 0x00#8 ∉ unusedBytes) ∧
    after { at100 0xD9 0 0 with sp := 0xFFFC } (fun t => (t.ime, t.sp)) = some (true, 0xFFFE) := by decide

/-- PcAdvancesByTheLength: an ordinary instruction at FFFF, an unused byte, and HALT refused. -/
theorem witness_pc : (0x00#8 ∉ controlOps ∧ 0xD3#8 ∉ controlOps ∧ 0x76#8 ∉ controlOps ∧ 0x18#8 ∈ controlOps) ∧
    after { State.reset with pc := 0xFFFF } (fun t => t.pc) = some 0x0000 := by decide

/-- MaskedInterruptsAreNotSeen: EI pending, before an instruction that is not HALT; two sequences. -/
theorem witness_masked : ({ at100 0x3C 0 0 with eiPending := true } : State).fetch.1 ≠ .halt ∧
    after { at100 0x3C 0 0 with irqInputs := [some .timer] } (fun t => (t.a, t.irqInputs)) = some (0x01, []) ∧
    after { at100 0x3C 0 0 with irqInputs := [none, some .serial] } (fun t => (t.a, t.irqInputs)) = some (0x01, [some .serial]) := by
  decide

/-! ### The Bus (00_scope.md R10, 20_memory.md R44, R51) -/

/-- TheDefaultBusIsTheFlatStore: a store under the default Bus, with canonical memory before it. -/
theorem witness_flat : start.bus.regions = [] ∧ Memory.wf start.mem ∧
    after { at100 0x70 0 0 with b := 0x5A, h := 0xC0 } (fun t => (t.read 0xC000, t.busLog)) = some (0x5A, []) := by decide

/-- A platform with ROM at 0000 to 7FFF and a device at FF00 to FF7F that gives these answers. -/
def platform (l : List Config.BusAnswer) : Config.Bus := ⟨[⟨0x0000, 0x8000, .rom⟩, ⟨0xFF00, 0x80, .device⟩], l⟩

/-- TheBusAnswersEveryAccess: the ends of the regions, and a device with and without an answer left. -/
theorem witness_kinds : ([0x0000, 0x7FFF, 0x8000, 0xFEFF, 0xFF00, 0xFF7F, 0xFF80].map
      fun a : Word => ({ start with bus := platform [] } : State).kindAt a) = [.rom, .rom, .ram, .ram, .device, .device, .ram] ∧
    (platform [⟨0x91, []⟩]).answers = [⟨0x91, []⟩] ∧ (∃ t, step { start with bus := platform [] } = .next t) :=
  ⟨by decide, rfl, _, rfl⟩

/-- R44, a read-only ROM: LD (HL),B at 0100 leaves the byte there, and nothing is logged. -/
theorem test_rom_ignores_writes : after { at100 0x70 0 0 with bus := platform [], b := 0x5A, h := 0x01 }
    (fun t => (t.read 0x0100, t.busLog, t.pc)) = some (0x70, [], 0x0101) := by decide

/-- R44, a register that changes when read: LDH A,(44H) twice. -/
theorem test_device_read : after { at100 0xF0 0x44 0 with bus := platform [⟨0x91, []⟩, ⟨0x92, []⟩] }
      (fun t => (t.a, t.bus.answers, t.busLog)) = some (0x91, [⟨0x92, []⟩], [.read 0xFF44]) ∧
    after { at100 0xF0 0x44 0 with bus := platform [⟨0x92, []⟩] } (fun t => (t.a, t.bus.answers)) = some (0x92, []) := by decide

/-- R44, a write that starts a transfer: LDH (46H),A moves bytes of the store, and the written byte is the device's. -/
theorem test_device_write : after { at100 0xE0 0x46 0 with a := 0xC0, bus := platform [⟨0x00, [(0xFE00, 0x11), (0xFE01, 0x22)]⟩] }
    (fun t => (t.read 0xFE00, t.read 0xFE01, t.peek 0xFF46, t.busLog)) = some (0x11, 0x22, 0x00, [.write 0xFF46 0xC0]) := by decide

/-- R51: INC (HL) reads its operand before it writes it. -/
theorem test_device_order_inc : after { at100 0x34 0 0 with h := 0xFF, l := 0x40, bus := platform [⟨0x0F, []⟩, ⟨0x00, []⟩] }
    (fun t => (t.f &&& 0xE0, t.busLog)) = some (0x20, [.read 0xFF40, .write 0xFF40 0x10]) := by decide

/-- R51: PUSH writes the high byte first, LD (a16),SP the low byte first, POP reads the low byte first. -/
theorem test_device_order_word : after { at100 0xC5 0 0 with b := 0x12, c := 0x34, sp := 0xFF42, bus := platform [] }
      (fun t => t.busLog) = some [.write 0xFF41 0x12, .write 0xFF40 0x34] ∧
    after { at100 0x08 0x40 0xFF with sp := 0x1234, bus := platform [] }
      (fun t => t.busLog) = some [.write 0xFF40 0x34, .write 0xFF41 0x12] ∧
    after { at100 0xC1 0 0 with sp := 0xFF40, bus := platform [⟨0x34, []⟩, ⟨0x12, []⟩] }
      (fun t => (t.b, t.c, t.busLog)) = some (0x12, 0x34, [.read 0xFF40, .read 0xFF41]) := by decide

/-- R62: fetching reads as many bytes as the instruction has. -/
theorem test_device_fetch : after { start with pc := 0xFF00, bus := platform [⟨0x06, []⟩, ⟨0x77, []⟩, ⟨0x00, []⟩] }
    (fun t => (t.b, t.pc, t.busLog)) = some (0x77, 0xFF02, [.read 0xFF00, .read 0xFF01]) := by decide

/-- A step that records a fault leaves the Bus as it was (log 9). -/
theorem test_device_fault : after { start with pc := 0xFF00, bus := platform [⟨0xD3, [(0xC000, 0x01)]⟩] }
    (fun t => (t.fault, t.peek 0xC000, t.busLog)) = some (some ⟨.illegalOpcode, 0xFF00, 0xD3⟩, 0x00, []) := by decide

end Sys2Proof.Tests
end

/-! PROOFS. What a launch and a whole step do with the `Bus` (00_scope.md R10, 20_memory.md R43, R44, R50). -/

namespace Sys2Proof.Proofs

open Sys2Proof.Machine Sys2Proof.Laws

/-! ### The launch -/

@[simp] theorem resetWith_bus (p : Config.ResetProfile) (bus : Config.Bus) (m : List Host.Cell) (q : List (Option IrqLine)) :
    (State.resetWith p bus m q).bus = bus := by cases p <;> rfl

@[simp] theorem resetWith_busLog (p : Config.ResetProfile) (bus : Config.Bus) (m : List Host.Cell) (q : List (Option IrqLine)) :
    (State.resetWith p bus m q).busLog = [] := by cases p <;> rfl

@[simp] theorem resetWith_mem (p : Config.ResetProfile) (bus : Config.Bus) (m : List Host.Cell) (q : List (Option IrqLine)) :
    (State.resetWith p bus m q).mem = m := by cases p <;> rfl

/-- A launch with the default Bus shows the memory it was given. -/
theorem read_resetWith_flat (p : Config.ResetProfile) (m : List Host.Cell) (q : List (Option IrqLine)) (a : Word) :
    (State.resetWith p Config.Bus.flat m q).read a = readCells m a.toNat := by
  have ram : (State.resetWith p Config.Bus.flat m q).kindAt a = .ram := kindAt_flat (by rw [resetWith_bus]; rfl) a
  rw [read_ram ram, State.peek, resetWith_mem]

/-! ### The parts of a step -/

theorem push16_busRuns (s : State) (v : Word) : BusRuns s (s.push16 v) := by
  rw [push16_eq]
  exact (access_busRuns s _).trans ((access_busRuns _ _).trans (.of_eq rfl rfl))

/-- Taking an interrupt accesses the `Bus` by its push of PC alone. -/
theorem dispatchIrq_busRuns (s : State) (n : IrqLine) : BusRuns s (s.dispatchIrq n) := by
  have acked : BusRuns s { s with ime := false, eiPending := false, acks := s.acks ++ [n] } := .of_eq rfl rfl
  exact acked.trans ((push16_busRuns _ s.pc).trans (.of_eq rfl rfl))

theorem fetch_busRuns (s : State) : BusRuns s s.fetch.2 := (fetch_quiet 0 s).1

/-- The end of a step keeps what the instruction did with the `Bus`, or, where a fault is recorded, undoes all of it (log 9). -/
theorem commit_busRuns {s t : State} (h : BusRuns s t) : BusRuns s (s.commit t) := by
  unfold State.commit
  split
  · exact h.trans (.of_eq rfl rfl)
  · exact .of_eq rfl rfl

/-- Every step keeps the address map and uses one answer, in order, for each access it logs. -/
theorem step_busRuns {s t : State} (h : step s = .next t) : BusRuns s t := by
  obtain ⟨r, held, hr⟩ | ⟨-, n, -, hn⟩ | ⟨-, -, hi⟩ := step_cases s
  · obtain ⟨-, -, -, rfl⟩ := noStep_next (held.trans (congrArg some (hr.symm.trans h)))
    exact .of_eq rfl rfl
  · obtain rfl := Host.Outcome.next.inj (hn.symm.trans h)
    exact (BusRuns.of_eq (wake_bus s) (wake_busLog s)).trans ((dispatchIrq_busRuns _ n).trans (.of_eq rfl rfl))
  · obtain rfl := Host.Outcome.next.inj (hi.symm.trans h)
    have ready : BusRuns s s.wake.promoteEi := .of_eq (promoteEi_bus s.wake) (promoteEi_busLog s.wake)
    exact commit_busRuns (ready.trans ((fetch_busRuns _).trans (Shape.run_busRuns ..)))

/-! ### The statements -/

/-- Settles O24: with no region every address is RAM, so a step's logged accesses, all of them to devices, are none. -/
theorem theDefaultBusIsTheFlatStore : Obligations.TheDefaultBusIsTheFlatStore :=
  ⟨fun _ flat canonical => ⟨afterRead_flat flat, fun a b v => read_write_flat flat a b v canonical,
      fun _ h => (step_busRuns h).flat flat⟩,
    read_resetWith_flat, rfl⟩

/-- Settles O41: an access by the kind of its address, and `step_busRuns` for the steps. -/
theorem theBusAnswersEveryAccess : Obligations.TheBusAnswersEveryAccess := by
  refine ⟨fun s a v => ⟨fun rom => ?_, fun r rest device answer => ?_, fun device spent => ?_⟩,
    fun s l a canonical unnamed => readCells_applyStores l s.mem a canonical unnamed,
    fun p bus m q => ⟨resetWith_bus p bus m q, resetWith_busLog p bus m q⟩, fun _ _ => step_busRuns⟩
  · exact ⟨read_rom rom, afterRead_rom rom, write_rom rom⟩
  · exact ⟨read_device device answer, access_device device answer, access_device device answer⟩
  · exact ⟨read_spent spent, access_spent device spent, access_spent device spent⟩

end Sys2Proof.Proofs

/-! PROOFS. The launch, the invariant, the flags byte and the pairs (10_state.md), and which instruction writes which cell. -/

namespace Sys2Proof.Proofs

open Sys2Proof.Machine Sys2Proof.Laws

/-! ### The invariant over a step -/

/-- Settles O3: a held step only uses up an input; taking an interrupt, the work before the fetch, the fetch, the instruction's shape
and the end of the step each keep the invariant. -/
theorem stepKeepsInvariant : Obligations.StepKeepsInvariant := by
  intro s t inv h
  obtain ⟨r, held, hr⟩ | ⟨-, n, -, hn⟩ | ⟨-, -, hi⟩ := step_cases s
  · obtain ⟨-, -, -, rfl⟩ := noStep_next (held.trans (congrArg some (hr.symm.trans h)))
    exact nextInput_inv s inv
  · obtain rfl := Host.Outcome.next.inj (hn.symm.trans h)
    exact nextInput_inv _ (dispatchIrq_inv _ n (wake_inv s inv))
  · obtain rfl := Host.Outcome.next.inj (hi.symm.trans h)
    have fetched : s.wake.promoteEi.fetch.2.Inv := fetch_inv _ (promoteEi_inv _ (wake_inv s inv))
    exact commit_inv _ _ inv (Shape.run_inv _ _ fetched)

/-! ### The launch's state -/

theorem resetWith_fault (p : Config.ResetProfile) (bus : Config.Bus) (m : List Host.Cell) (q : List (Option IrqLine)) :
    (State.resetWith p bus m q).fault = none := by cases p <;> rfl

theorem resetWith_inv (p : Config.ResetProfile) (bus : Config.Bus) {m : List Host.Cell} (q : List (Option IrqLine))
    (canonical : Memory.wf m) : (State.resetWith p bus m q).Inv := by
  cases p with
  | powerOn r => exact ⟨canonical, high_mask_low r.f⟩
  | postBootDMG => exact ⟨canonical, show 0xB0#8 &&& 0x0F#8 = 0#8 by decide⟩

/-- An empty fault cell says nothing false. -/
theorem faultInv_of_none {s : State} (h : s.fault = none) : s.FaultInv := by
  rw [State.FaultInv, h]; trivial

/-- Settles O1: each cell is the profile's by definition; F is masked with 0xF0. -/
theorem resetGivesTheTabulatedState : Obligations.ResetGivesTheTabulatedState := by
  refine ⟨fun r _ _ _ => ?_, fun _ _ _ => ⟨rfl, rfl, rfl, rfl, rfl, rfl, rfl, rfl, rfl, rfl, rfl, rfl, rfl, rfl, rfl⟩⟩
  have high : r.f &&& 0xF0#8 &&& 0xF0#8 = r.f &&& 0xF0#8 := by rw [BitVec.and_assoc, BitVec.and_self]
  exact ⟨rfl, rfl, rfl, high, high_mask_low r.f, rfl, rfl, rfl, rfl, rfl, rfl, rfl, rfl, rfl, rfl, rfl⟩

/-- Settles O2: `State.reset` is the launch over the empty memory, which is canonical. -/
theorem resetMeetsTheInvariants : Obligations.ResetMeetsTheInvariants := by
  have meets (p : Config.ResetProfile) (bus : Config.Bus) (m : List Host.Cell) (q : List (Option IrqLine))
      (canonical : Memory.wf m) : (State.resetWith p bus m q).Inv ∧ (State.resetWith p bus m q).FaultInv :=
    ⟨resetWith_inv p bus q canonical, faultInv_of_none (resetWith_fault p bus m q)⟩
  exact ⟨meets _ _ _ _ ⟨List.Pairwise.nil, fun _ h => absurd h List.not_mem_nil⟩, meets⟩

/-! ### The flags byte as a number -/

theorem toNat_append_eq_add {m n : Nat} (x : BitVec m) (y : BitVec n) : (x ++ y).toNat = x.toNat * 2 ^ n + y.toNat := by
  rw [BitVec.toNat_append, ← Nat.shiftLeft_add_eq_or_of_lt y.isLt, Nat.shiftLeft_eq]

theorem packFlags_toNat (z n h c : Bool) (old : Byte) : (packFlags z n h c old).toNat =
    z.toNat * 0x80 + n.toNat * 0x40 + h.toNat * 0x20 + c.toNat * 0x10 + old.toNat % 16 := by
  simp only [packFlags, toNat_append_eq_add, BitVec.toNat_ofBool, BitVec.extractLsb'_toNat]
  omega

/-- A byte is its own four flags over its own low nibble. -/
theorem packFlags_self (v : Byte) : packFlags (v.getLsbD 7) (v.getLsbD 6) (v.getLsbD 5) (v.getLsbD 4) v = v := by
  revert v; decide

theorem toNat_mod_of_low_zero {v : Byte} (low : v &&& 0x0F#8 = 0#8) : v.toNat % 16 = 0 := by
  have masked := congrArg BitVec.toNat low
  rwa [BitVec.toNat_and, show (0x0F#8).toNat = 2 ^ 4 - 1 from rfl, Nat.and_two_pow_sub_one_eq_mod] at masked

/-- Settles O51: `packFlags` as a sum, and F as `packFlags` of its own flags. -/
theorem flagsByteIsItsFourFlags : Obligations.FlagsByteIsItsFourFlags := by
  intro s z n h c
  refine ⟨packFlags_toNat .., setFlags_flagZ .., setFlags_flagN .., setFlags_flagH .., setFlags_flagC .., fun low => ?_⟩
  have own := packFlags_toNat s.flagZ s.flagN s.flagH s.flagC s.f
  rwa [State.flagZ, State.flagN, State.flagH, State.flagC, packFlags_self, toNat_mod_of_low_zero low] at own

/-! ### Pairs -/

theorem hiByte_toNat (w : Word) : (hiByte w).toNat = w.toNat / 256 := by
  rw [hiByte, BitVec.extractLsb'_toNat, Nat.shiftRight_eq_div_pow]
  omega

theorem loByte_toNat (w : Word) : (loByte w).toNat = w.toNat % 256 := by
  rw [loByte, BitVec.extractLsb'_toNat]; rfl

theorem join_and_join (a b c d : Byte) : join a b &&& join c d = join (a &&& c) (b &&& d) := BitVec.and_append

/-- Settles O52: a word is the join of its two bytes; AF's low byte is masked before it is joined. -/
theorem pairRoundTrip : Obligations.PairRoundTrip := by
  intro s x
  have bytes := And.intro (join_hiByte_loByte x) (And.intro (hiByte_toNat x) (loByte_toNat x))
  refine ⟨bytes, bytes, bytes, ?_⟩
  calc join (hiByte x) (loByte x &&& 0xF0#8)
    _ = join (hiByte x &&& 0xFF#8) (loByte x &&& 0xF0#8) := by rw [show 0xFF#8 = BitVec.allOnes 8 from rfl, BitVec.and_allOnes]
    _ = join (hiByte x) (loByte x) &&& join 0xFF#8 0xF0#8 := (join_and_join ..).symm
    _ = x &&& 0xFFF0#16 := congrArg (· &&& 0xFFF0#16) (join_hiByte_loByte x)

/-! ### The 0xCB space by its fields (30_encoding.md R81) -/

/-- The operation of field y of a CB opcode below 0x40. -/
def rotOpOf (y : Oct) : RotOp :=
  match y with
  | .o0 => .RLC
  | .o1 => .RRC
  | .o2 => .RL
  | .o3 => .RR
  | .o4 => .SLA
  | .o5 => .SRA
  | .o6 => .SWAP
  | .o7 => .SRL

/-- The shape of the CB opcode `b`, by its fields; `shapeOf_decodeCb` ties it to the decoder. -/
def cbShape (b : Byte) : Shape :=
  match fieldX b with
  | .q0 => .modify8 2 (operandOf (fieldZ b)) (rotByte (rotOpOf (fieldY b)))
  | .q1 => .testBit 2 (fieldY b) (operandOf (fieldZ b))
  | .q2 => .rewrite8 2 (operandOf (fieldZ b)) (resetBit (fieldY b))
  | .q3 => .rewrite8 2 (operandOf (fieldZ b)) (setBit (fieldY b))

theorem shapeOf_decodeCb (b : Byte) : shapeOf (decodeCb b) = cbShape b := by
  unfold decodeCb cbShape
  generalize fieldX b = x, fieldY b = y, fieldZ b = z
  cases x <;> cases y <;> cases z <;> rfl

theorem decodeCb_size (b : Byte) : (decodeCb b).size = 2 := by
  unfold decodeCb
  generalize fieldX b = x, fieldY b = y, fieldZ b = z
  cases x <;> cases y <;> cases z <;> rfl

theorem cbShape_regs (b : Byte) : (cbShape b).regs ⊆ regsWritten 0xCB b := by
  change (cbShape b).regs ⊆ match fieldX b with | .q1 => [] | _ => indexReg (fieldZ b)
  unfold cbShape
  generalize fieldX b = x, fieldZ b = z
  cases x <;> cases z <;> exact of_decide_eq_true rfl

theorem cbShape_writesSp (b : Byte) : (cbShape b).writesSp = false := by unfold cbShape; split <;> rfl

theorem cbShape_writesControl (b : Byte) : (cbShape b).writesControl = false := by unfold cbShape; split <;> rfl

theorem cbShape_length (b : Byte) : (cbShape b).length = some 2 := by unfold cbShape; split <;> rfl

/-! ### The claims' tables against the shapes -/

/-- The opcodes of a shape that writes a control cell. -/
def controlBytes (k : Shape) : List Byte :=
  match k with
  | .di => [0xF3]
  | .ei => [0xFB]
  | .reti => [0xD9]
  | .halt => [0x76]
  | .stop => [0x10]
  | .illegal _ => unusedBytes
  | _ => []

/-- The shape of instruction `i` is as the tables say of its bytes `w0` and `w1`: the registers and SP (10_state.md R28), the control
cells, and the length (30_encoding.md R76) of what is no control transfer, HALT or unused byte. -/
structure FollowsTables (w0 w1 : Byte) (i : Instr) : Prop where
  regs : (shapeOf i).regs ⊆ regsWritten w0 w1
  sp : (shapeOf i).writesSp = spWritten w0
  control : (controlBytes (shapeOf i)).contains w0 = (shapeOf i).writesControl
  length : (shapeOf i).length =
    if w0 ∈ controlOps ∨ w0 ∈ unusedBytes ∨ w0 = 0x76#8 then none else some (BitVec.ofNat 16 i.size)

theorem decodeCb_followsTables (b : Byte) : FollowsTables 0xCB b (decodeCb b) where
  regs := (shapeOf_decodeCb b).symm ▸ cbShape_regs b
  sp := (shapeOf_decodeCb b).symm ▸ cbShape_writesSp b
  control := by
    rw [shapeOf_decodeCb, cbShape_writesControl]
    unfold cbShape
    split <;> rfl
  length := by rw [shapeOf_decodeCb, cbShape_length, decodeCb_size]; rfl

/-- Row by row over the fields of the opcode; the row 0xCB goes on to the second byte. -/
theorem decodeWindow_followsTables (w0 w1 w2 : Byte) : FollowsTables w0 w1 (decodeWindow w0 w1 w2) := by
  revert w0
  refine byte_by_fields _ fun x y z => ?_
  cases x <;> cases y <;> cases z
  case q3.o1.o3 => exact decodeCb_followsTables w1
  all_goals exact ⟨of_decide_eq_true rfl, rfl, rfl, rfl⟩

/-- Settles O56: the shape writes no register but those of the tables. -/
theorem registersWrittenAreThoseOfTheTable : Obligations.RegistersWrittenAreThoseOfTheTable := by
  intro w0 w1 w2 s t h
  obtain rfl := Host.Outcome.next.inj ((exec_eq _ s).symm.trans h)
  have row := decodeWindow_followsTables w0 w1 w2
  exact ⟨fun r unlisted => Shape.run_regs _ s r fun written => unlisted (row.regs written),
    fun unlisted => Shape.run_sp _ s (row.sp.trans unlisted)⟩

/-! ### The control cells -/

theorem mem_controlBytes {w0 w1 w2 : Byte} {k : Shape} (h : shapeOf (decodeWindow w0 w1 w2) = k) (writes : k.writesControl = true) :
    w0 ∈ controlBytes k := by
  subst h
  exact List.contains_iff_mem.1 ((decodeWindow_followsTables w0 w1 w2).control.trans writes)

/-- A shape that writes a control cell and has one opcode tells the opcode. -/
theorem opcode_of_shape {w0 w1 w2 b : Byte} {k : Shape} (h : shapeOf (decodeWindow w0 w1 w2) = k) (writes : k.writesControl = true)
    (one : controlBytes k = [b]) : w0 = b := List.mem_singleton.1 (one ▸ mem_controlBytes h writes)

/-- Which shapes write which control cell; no shape uses up an input. The fault cell is `Shape.run_fault`'s. -/
theorem run_controlCells (k : Shape) (s : State) :
    ((k.run s).ime = s.ime ∨ k = .di ∨ k = .reti) ∧ ((k.run s).eiPending = s.eiPending ∨ k = .di ∨ k = .ei) ∧
    ((k.run s).mode = s.mode ∨ k = .halt ∨ k = .stop) ∧ (k.run s).irqInputs = s.irqInputs := by
  cases h : k.writesControl with
  | false =>
    obtain ⟨ime, ei, mode, -, inputs, -⟩ := Shape.run_control k s h
    exact ⟨.inl ime, .inl ei, .inl mode, inputs⟩
  | true =>
    cases k <;> simp only [Shape.writesControl, Bool.false_eq_true] at h
    case di => exact ⟨.inr (.inl rfl), .inr (.inl rfl), .inl rfl, rfl⟩
    case ei => exact ⟨.inl rfl, .inr (.inr rfl), .inl rfl, rfl⟩
    case reti => exact ⟨.inr (.inr rfl), .inl (returnIrq_eiPending s), .inl (returnIrq_mode s), returnIrq_irqInputs s⟩
    case stop => exact ⟨.inl rfl, .inl rfl, .inr (.inr rfl), rfl⟩
    case illegal => exact ⟨.inl rfl, .inl rfl, .inl rfl, rfl⟩
    case halt =>
      rw [Shape.run]
      split <;> exact ⟨.inl rfl, .inl rfl, .inr (.inl rfl), rfl⟩

/-- Settles O58: a shape that writes the cell has an opcode that the claim excepts. -/
theorem controlCellsChangeOnlyByTheirInstructions : Obligations.ControlCellsChangeOnlyByTheirInstructions := by
  intro w0 w1 w2 s t h
  obtain rfl := Host.Outcome.next.inj ((exec_eq _ s).symm.trans h)
  obtain ⟨ime, eiPending, mode, inputs⟩ := run_controlCells (shapeOf (decodeWindow w0 w1 w2)) s
  refine ⟨fun noDi noReti => ime.resolve_right ?_, fun noDi noEi => eiPending.resolve_right ?_,
    fun noHalt noStop => mode.resolve_right ?_, fun noHalt used => (Shape.run_fault _ s).resolve_right ?_,
    inputs, Shape.run_acks _ s, (Shape.run_busRuns _ s).1⟩
  · rintro (di | reti)
    · exact noDi (opcode_of_shape di rfl rfl)
    · exact noReti (opcode_of_shape reti rfl rfl)
  · rintro (di | ei)
    · exact noDi (opcode_of_shape di rfl rfl)
    · exact noEi (opcode_of_shape ei rfl rfl)
  · rintro (halt | stop)
    · exact noHalt (opcode_of_shape halt rfl rfl)
    · exact noStop (opcode_of_shape stop rfl rfl)
  · rintro (⟨v, illegal, -⟩ | ⟨halt, -⟩)
    · exact used (mem_controlBytes illegal rfl)
    · exact noHalt (opcode_of_shape halt rfl rfl)

/-! ### The program counter -/

theorem shapeOf_unused {w0 : Byte} (h : w0 ∈ unusedBytes) (w1 w2 : Byte) : shapeOf (decodeWindow w0 w1 w2) = .illegal w0 := by
  simp only [unusedBytes, List.mem_cons, List.not_mem_nil, or_false] at h
  rcases h with rfl | rfl | rfl | rfl | rfl | rfl | rfl | rfl | rfl | rfl | rfl <;> rfl

/-- HALT goes on to the next byte unless it is refused (47_misc.md R171). -/
theorem halt_run_pc (s : State) : (Shape.halt.run s).pc = if s.ime = false ∧ s.irqPending ≠ none then s.pc else s.pc + 1 := by
  have refused : (!s.ime && s.irqPending.isSome) = true ↔ s.ime = false ∧ s.irqPending ≠ none := by
    simp [Option.isSome_iff_ne_none]
  rw [Shape.run, ite_congr (propext refused) (fun _ => rfl) (fun _ => rfl)]
  split <;> rfl

/-- Settles O59: an unused byte and HALT by themselves, every other instruction by the length of its shape. -/
theorem pcAdvancesByTheLength : Obligations.PcAdvancesByTheLength := by
  intro w0 w1 w2 s t h noTransfer
  obtain rfl := Host.Outcome.next.inj ((exec_eq _ s).symm.trans h)
  have past : BitVec.ofNat 16 (s.pc.toNat + (decodeWindow w0 w1 w2).size) = s.pc + BitVec.ofNat 16 (decodeWindow w0 w1 w2).size := by
    rw [BitVec.ofNat_add, BitVec.ofNat_toNat, BitVec.setWidth_eq]
  rw [past]
  by_cases unused : w0 ∈ unusedBytes
  · rw [if_pos (.inl unused), shapeOf_unused unused]
    rfl
  by_cases halt : w0 = 0x76#8
  · subst halt
    simp only [unused, true_and, false_or]
    exact halt_run_pc s
  · rw [if_neg (not_or.2 ⟨unused, fun refused => halt refused.1⟩)]
    have none_of : ¬(w0 ∈ controlOps ∨ w0 ∈ unusedBytes ∨ w0 = 0x76#8) := not_or.2 ⟨noTransfer, not_or.2 ⟨unused, halt⟩⟩
    exact Shape.run_pc _ s _ ((decodeWindow_followsTables w0 w1 w2).length.trans (if_neg none_of))

/-! ### The inputs are not seen

An update that swaps the sequence of inputs commutes with every operation but HALT's. -/

/-- The state with `q` as its sequence of inputs. -/
def withInputs (s : State) (q : List (Option IrqLine)) : State := { s with irqInputs := q }

section

variable (s : State) (q : List (Option IrqLine))

@[simp] theorem withInputs_a : (withInputs s q).a = s.a := rfl
@[simp] theorem withInputs_c : (withInputs s q).c = s.c := rfl
@[simp] theorem withInputs_sp : (withInputs s q).sp = s.sp := rfl
@[simp] theorem withInputs_pc : (withInputs s q).pc = s.pc := rfl
@[simp] theorem withInputs_fault : (withInputs s q).fault = s.fault := rfl

@[simp] theorem withInputs_flagZ : (withInputs s q).flagZ = s.flagZ := rfl
@[simp] theorem withInputs_flagC : (withInputs s q).flagC = s.flagC := rfl
@[simp] theorem withInputs_flag (x : Flag) : (withInputs s q).flag x = s.flag x := by cases x <;> rfl
@[simp] theorem withInputs_cond (cc : Cond) : (withInputs s q).cond cc = s.cond cc := by cases cc <;> simp [State.cond]
@[simp] theorem withInputs_reg8 (r : Reg8) : (withInputs s q).reg8 r = s.reg8 r := by cases r <;> rfl
@[simp] theorem withInputs_get16 (p : Reg16) : (withInputs s q).get16 p = s.get16 p := by cases p <;> rfl
@[simp] theorem withInputs_read (a : Word) : (withInputs s q).read a = s.read a := rfl

@[simp] theorem withInputs_afterRead (a : Word) : (withInputs s q).afterRead a = withInputs (s.afterRead a) q := rfl
@[simp] theorem withInputs_write (a : Word) (v : Byte) : (withInputs s q).write a v = withInputs (s.write a v) q := rfl
@[simp] theorem withInputs_setFlags (z n h c : Bool) :
    (withInputs s q).setFlags z n h c = withInputs (s.setFlags z n h c) q := rfl
@[simp] theorem withInputs_advance (n : Word) : (withInputs s q).advance n = withInputs (s.advance n) q := rfl
@[simp] theorem withInputs_push16 (v : Word) : (withInputs s q).push16 v = withInputs (s.push16 v) q := rfl
@[simp] theorem withInputs_pop16 : (withInputs s q).pop16 = (s.pop16.1, withInputs s.pop16.2 q) := rfl

@[simp] theorem withInputs_set8 (r : Reg8) (v : Byte) : (withInputs s q).set8 r v = withInputs (s.set8 r v) q := by
  cases r <;> rfl

@[simp] theorem withInputs_set16 (p : Reg16) (v : Word) : (withInputs s q).set16 p v = withInputs (s.set16 p v) q := by
  cases p <;> rfl

@[simp] theorem withInputs_resolve (d : Dest8) :
    (withInputs s q).resolve d = ((s.resolve d).1, withInputs (s.resolve d).2 q) := by
  unfold State.resolve State.incPair State.decPair
  split <;> simp

@[simp] theorem withInputs_readPlace (p : Place) : (withInputs s q).readPlace p = s.readPlace p := by
  cases p <;> simp [State.readPlace]

@[simp] theorem withInputs_touchPlace (p : Place) : (withInputs s q).touchPlace p = withInputs (s.touchPlace p) q := by
  cases p <;> rfl

@[simp] theorem withInputs_writePlace (p : Place) (v : Byte) :
    (withInputs s q).writePlace p v = withInputs (s.writePlace p v) q := by
  cases p <;> simp [State.writePlace]

@[simp] theorem withInputs_readSrc (o : Src8) :
    (withInputs s q).readSrc o = ((s.readSrc o).1, withInputs (s.readSrc o).2 q) := by
  cases o <;> simp [State.readSrc]

@[simp] theorem withInputs_modify8 (n : Word) (d : Dest8) (g : Byte → Bool → ByteOut) :
    (withInputs s q).modify8 n d g = withInputs (s.modify8 n d g) q := by simp [State.modify8]

@[simp] theorem withInputs_rewrite8 (n : Word) (d : Dest8) (g : Byte → Byte) :
    (withInputs s q).rewrite8 n d g = withInputs (s.rewrite8 n d g) q := by simp [State.rewrite8]

@[simp] theorem withInputs_testBit (n : Word) (k : Oct) (d : Dest8) :
    (withInputs s q).testBit n k d = withInputs (s.testBit n k d) q := by simp [State.testBit]

theorem withInputs_prefixed (b : Byte) : (withInputs s q).prefixed b = withInputs (s.prefixed b) q := by
  unfold State.prefixed
  split <;> simp

theorem withInputs_whenCond (cc : Cond) (n : Word) (t : State) :
    (withInputs s q).whenCond cc n (withInputs t q) = withInputs (s.whenCond cc n t) q := by
  rw [State.whenCond, State.whenCond, withInputs_cond, withInputs_advance]
  split <;> rfl

theorem withInputs_promoteEi : (withInputs s q).promoteEi = withInputs s.promoteEi q := by
  unfold State.promoteEi withInputs
  split <;> rfl

theorem withInputs_fetch : (withInputs s q).fetch = (s.fetch.1, withInputs s.fetch.2 q) := by
  unfold State.fetch
  simp only [withInputs_read, withInputs_pc, withInputs_afterRead]
  split <;> rfl

/-- No shape but HALT sees the inputs. -/
theorem run_withInputs (k : Shape) (h : k ≠ .halt) : k.run (withInputs s q) = withInputs (k.run s) q := by
  cases k
  case halt => exact absurd rfl h
  case load8 => simp [Shape.run, State.load8]
  case modify8 => exact withInputs_modify8 ..
  case rewrite8 => exact withInputs_rewrite8 ..
  case testBit => exact withInputs_testBit ..
  case alu => simp [Shape.run, State.alu]
  case setPair | copyHL | incPair | decPair => simp [Shape.run, State.load16]
  case addHL => simp [Shape.run, State.addHL]
  case addSp => simp [Shape.run, State.addSp]
  case push => simp [Shape.run, State.pushPair]
  case pop => simp [Shape.run, State.popPair]
  case prefixed => exact withInputs_prefixed ..
  case jumpRelIf cc e => exact withInputs_whenCond s q cc 2 (s.jumpRel 2 e)
  case jumpIf cc a => exact withInputs_whenCond s q cc 3 (s.jumpTo a)
  case callIf cc a => exact withInputs_whenCond s q cc 3 (s.callTo 3 a)
  case retIf cc => exact withInputs_whenCond s q cc 1 s.returnPop
  case storeSP | jumpRel | jump | jumpHL | call | ret | reti => rfl
  case rotA | daa | cpl | scf | ccf | nop | stop | di | ei | illegal => rfl

end

theorem wake_of_running {s : State} (running : s.mode = .running) : s.wake = s := by
  cases s; cases running; rfl

/-- The instruction fetched depends on PC, the `Bus` and the store alone. -/
theorem fetch_congr {s t : State} (hp : t.pc = s.pc) (hb : t.bus = s.bus) (hm : t.mem = s.mem) : t.fetch.1 = s.fetch.1 := by
  have second (a b : Word) : (t.afterRead a).read b = (s.afterRead a).read b := by
    apply read_congr <;> simp only [afterRead_bus, afterRead_mem, hb, hm]
  have third (a b c : Word) : ((t.afterRead a).afterRead b).read c = ((s.afterRead a).afterRead b).read c := by
    apply read_congr <;> simp only [afterRead_bus, afterRead_mem, hb, hm]
  simp only [State.fetch, hp, read_congr hb hm, second, third]
  split <;> rfl

theorem commit_of_none {s t : State} (h : t.fault = none) : s.commit t = t.nextInput := by rw [State.commit, h]

theorem commit_of_some {s t : State} {r : FaultRecord} (h : t.fault = some r) : s.commit t = { s with fault := some r } := by
  rw [State.commit, h]

/-- With IME = 0 a running core runs the instruction at PC. -/
theorem step_of_running_masked {s : State} (fault : s.fault = none) (running : s.mode = .running) (masked : s.ime = false) :
    step s = .next (s.commit ((shapeOf s.fetch.1).run s.promoteEi.fetch.2)) := by
  have awake := wake_of_running running
  have goes : s.noStep = none := noStep_none.2 ⟨fault, .inl running⟩
  have refuses : s.wake.accepts = none := by rw [awake, State.accepts, masked]; rfl
  obtain ⟨r, held, -⟩ | ⟨-, n, accepted, -⟩ | ⟨-, -, ran⟩ := step_cases s
  · exact nomatch goes.symm.trans held
  · exact nomatch refuses.symm.trans accepted
  · rwa [awake, fetch_congr (promoteEi_pc s) (promoteEi_bus s) (promoteEi_mem s)] at ran

/-- Settles O60: neither the fetch nor a shape other than HALT's sees the inputs, and the end of the step uses one up or, where a
fault is recorded, none. -/
theorem maskedInterruptsAreNotSeen : Obligations.MaskedInterruptsAreNotSeen := by
  intro s q fault running masked notHalt
  have unseeing : shapeOf s.fetch.1 ≠ .halt := by
    obtain ⟨w1, w2, fetched⟩ := fetch_opcode s
    intro halt
    have opcode : s.read s.pc = 0x76 := opcode_of_shape (fetched ▸ halt) rfl rfl
    exact notHalt (by rw [fetched, opcode]; rfl)
  refine ⟨_, step_of_running_masked fault running masked, ?_⟩
  change step (withInputs s q) = _
  rw [step_of_running_masked (s := withInputs s q) fault running masked, withInputs_promoteEi, withInputs_fetch, withInputs_fetch,
    run_withInputs _ _ _ unseeing]
  generalize (shapeOf s.fetch.1).run s.promoteEi.fetch.2 = t
  cases recorded : t.fault with
  | none =>
    rw [commit_of_none recorded, commit_of_none ((withInputs_fault t q).trans recorded)]
    split
    · rfl
    · rename_i found
      exact nomatch recorded.symm.trans found
  | some r =>
    rw [commit_of_some recorded, commit_of_some ((withInputs_fault t q).trans recorded)]
    rfl

end Sys2Proof.Proofs

/-! PROOFS. Memory (20_memory.md): the canonical form, a 16-bit access, the bytes an instruction is decoded from, and the addresses it
stores to. -/

namespace Sys2Proof.Proofs

open Sys2Proof.Machine Sys2Proof.Laws

/-! ### The canonical form (20_memory.md R42) -/

/-- A canonical list holds exactly the bytes that it reads differently from an unlisted one. -/
theorem mem_iff_readCells {m : List Host.Cell} (canonical : Memory.wf m) (x : Host.Cell) :
    x ∈ m ↔ x.1 < 65536 ∧ x.2 ≠ Config.unlistedByte ∧ readCells m x.1 = x.2 := by
  constructor
  · intro listed
    obtain ⟨inSpace, written⟩ := canonical.2 x listed
    exact ⟨inSpace, written, (readCells_eq_iff m x.1 x.2 canonical written).2 listed⟩
  · rintro ⟨-, written, reads⟩
    exact (readCells_eq_iff m x.1 x.2 canonical written).1 reads

/-- Settles O54: the two lists have the same members, and a list with strictly rising addresses is told by its members. -/
theorem canonicalMemoriesWithEqualBytesAreEqual : Obligations.CanonicalMemoriesWithEqualBytesAreEqual := by
  intro m m' canonical canonical' same
  have rises : Std.Asymm fun x y : Host.Cell => x.1 < y.1 := ⟨fun _ _ => Nat.lt_asymm⟩
  refine List.Pairwise.eq_of_mem_iff canonical.1 canonical'.1 fun x => ?_
  rw [mem_iff_readCells canonical, mem_iff_readCells canonical']
  refine and_congr_right fun inSpace => ?_
  have reads := same (BitVec.ofNat 16 x.1)
  rw [BitVec.toNat_ofNat, Nat.mod_eq_of_lt inSpace] at reads
  rw [reads]

/-! ### A 16-bit access in RAM (20_memory.md R45, R46) -/

theorem read16_ram {s : State} {a : Word} (ram : s.kindAt a = .ram) : (s.read16 a).1 = join (s.read (a + 1)) (s.read a) := by
  rw [State.read16, afterRead_ram ram]

theorem word_ne_next (a : Word) : a ≠ a + 1 := by bv_omega

/-- Two bytes written one after the other, `hi` at the address after `lo`'s, and read back. -/
theorem read_write_write_ram {s : State} {a : Word} (lo hi : Byte) (b : Word) (canonical : Memory.wf s.mem)
    (ram : s.kindAt a = .ram) (ram' : s.kindAt (a + 1) = .ram) :
    ((s.write a lo).write (a + 1) hi).read b = if b = a + 1 then hi else if b = a then lo else s.read b := by
  rw [read_write_ram hi b (write_wf s a lo canonical) ((write_kindAt ..).trans ram'), read_write_ram lo b canonical ram]

/-- The word at `a` after two bytes are written there. -/
theorem read16_write_write_ram {s : State} {a : Word} (lo hi : Byte) (canonical : Memory.wf s.mem) (ram : s.kindAt a = .ram)
    (ram' : s.kindAt (a + 1) = .ram) : (((s.write a lo).write (a + 1) hi).read16 a).1 = join hi lo := by
  have stillRam : ((s.write a lo).write (a + 1) hi).kindAt a = .ram := by rw [write_kindAt, write_kindAt, ram]
  rw [read16_ram stillRam, read_write_write_ram lo hi _ canonical ram ram', read_write_write_ram lo hi _ canonical ram ram',
    if_pos rfl, if_neg (word_ne_next a), if_pos rfl]

/-- Settles O53: a word written is its two bytes written, each of which is read back. -/
theorem wordAccessIsTwoByteAccesses : Obligations.WordAccessIsTwoByteAccesses := by
  refine ⟨fun _ _ _ => ⟨rfl, rfl⟩, fun s a v lo hi canonical ram ram' => ?_⟩
  have reads (b : Word) : (s.write16 a v).read b = if b = a + 1 then hiByte v else if b = a then loByte v else s.read b :=
    read_write_write_ram (loByte v) (hiByte v) b canonical ram ram'
  refine ⟨?_, ?_, ?_, fun b notLow notHigh => ?_, read16_write_write_ram lo hi canonical ram ram'⟩
  · rw [State.write16, read16_write_write_ram _ _ canonical ram ram', join_hiByte_loByte]
  · rw [reads, if_neg (word_ne_next a), if_pos rfl]
  · rw [reads, if_pos rfl]
  · rw [reads, if_neg notHigh, if_neg notLow]

/-! ### The bytes an instruction is decoded from (30_encoding.md R76, 20_memory.md R62) -/

/-- The decoder answers as if every byte beyond the length that the first byte tells were 0. -/
theorem decodeWindow_masked (w0 w1 w2 : Byte) : decodeWindow w0 w1 w2 =
    decodeWindow w0 (if fetchLength w0 = 1 then 0 else w1) (if fetchLength w0 = 3 then w2 else 0) := by
  revert w0
  refine byte_by_fields _ fun x y z => ?_
  cases x <;> cases y <;> cases z <;> rfl

/-- Settles O11: windows that agree as far as the length reaches are the same once the bytes beyond it are 0. -/
theorem decoderReadsOnlyTheInstruction : Obligations.DecoderReadsOnlyTheInstruction := by
  intro w0 w1 w2 v1 v2
  refine ⟨fun one => ?_, fun two => ?_⟩
  · rw [decodeWindow_masked w0 w1 w2, decodeWindow_masked w0 v1 v2, one]
    rfl
  · rw [decodeWindow_masked w0 w1 w2, decodeWindow_masked w0 w1 v2, two]
    rfl

/-! ### The addresses an instruction stores to (20_memory.md R57, 46_control.md R154) -/

/-- The operand of a CB opcode is a register, or the byte at HL, and then only BIT leaves it alone. -/
theorem cbShape_stores (b w2 : Byte) (s : State) : (cbShape b).stores s = storeAddrs 0xCB b w2 s := by
  change (cbShape b).stores s = match fieldX b, fieldZ b with
    | .q1, _ => []
    | _, .o6 => [s.get16 .HL]
    | _, _ => []
  unfold cbShape
  generalize fieldX b = x, fieldY b = y, fieldZ b = z
  cases x <;> cases z <;> rfl

/-- Row by row over the fields of the opcode, as in `decodeWindow_followsTables`. -/
theorem decodeWindow_stores (w0 w1 w2 : Byte) (s : State) :
    (shapeOf (decodeWindow w0 w1 w2)).stores s = storeAddrs w0 w1 w2 s := by
  revert w0
  refine byte_by_fields _ fun x y z => ?_
  cases x <;> cases y <;> cases z
  case q3.o1.o3 => exact (congrArg (Shape.stores · s) (shapeOf_decodeCb w1)).trans (cbShape_stores w1 w2 s)
  all_goals rfl

/-- Settles O55: the shape is quiet at every address it does not store to, and those are the claim's. -/
theorem storesGoOnlyWhereTheInstructionSays : Obligations.StoresGoOnlyWhereTheInstructionSays := by
  intro w0 w1 w2 s t inv h a unlisted unanswered
  obtain rfl := Host.Outcome.next.inj ((exec_eq _ s).symm.trans h)
  rw [← decodeWindow_stores] at unlisted
  have quiet := Shape.run_quiet _ s a unlisted
  have ⟨_, _, _, kept⟩ := quiet
  exact ⟨kept inv.1 unanswered, quiet.read inv.1 unanswered⟩

end Sys2Proof.Proofs

/-! PROOFS. The decoder and the encoder undo each other, and what the first byte tells (30_encoding.md R65 to R84). -/

namespace Sys2Proof.Proofs

open Sys2Proof.Machine Sys2Proof.Laws

/-! ### The encoder on what the decoder answers -/

theorem encode_decodeCb (b : Byte) : encode (decodeCb b) = [0xCB, b] := by
  revert b
  refine byte_by_fields _ fun x y z => ?_
  cases x <;> cases y <;> cases z <;> rfl

/-- The encoding of the decoded instruction is the window as far as the length reaches: row by row over the fields of the opcode,
with the operand bytes taken as those of one word, which `bytesF3` takes apart again. -/
theorem encode_decodeWindow (w0 w1 w2 : Byte) : encode (decodeWindow w0 w1 w2) = [w0, w1, w2].take (fetchLength w0) := by
  obtain ⟨v, rfl, rfl⟩ : ∃ v, w1 = loByte v ∧ w2 = hiByte v := ⟨join w2 w1, (loByte_join ..).symm, (hiByte_join ..).symm⟩
  rw [decodeWindow, join_hiByte_loByte]
  revert w0
  refine byte_by_fields _ fun x y z => ?_
  cases x <;> cases y <;> cases z
  case q3.o1.o3 => exact encode_decodeCb (loByte v)
  all_goals rfl

theorem decodeCb_wellFormed (b : Byte) : (decodeCb b).wellFormed = true := by
  unfold decodeCb
  generalize fieldX b = x, fieldY b = y, fieldZ b = z
  cases x <;> cases y <;> cases z <;> rfl

theorem decodeWindow_wellFormed (w0 w1 w2 : Byte) : (decodeWindow w0 w1 w2).wellFormed = true := by
  unfold decodeWindow
  generalize fieldX w0 = x, fieldY w0 = y, fieldZ w0 = z
  cases x <;> cases y <;> cases z
  case q3.o1.o3 => exact decodeCb_wellFormed w1
  all_goals rfl

/-! ### The decoder on what the encoder writes -/

/-- Row by row over the instructions; those with a 16-bit operand put it together again from its two bytes. -/
theorem decodeWindow_encode {i : Instr} (h : i.wellFormed = true) :
    decodeWindow ((encode i).getD 0 0) ((encode i).getD 1 0) ((encode i).getD 2 0) = i := by
  cases i
  case prefix_CB => exact absurd h Bool.false_ne_true
  -- the opcode as a number, without which `rfl` cannot compute its fields beside a variable operand
  all_goals conv_lhs => arg 1; whnf
  case ld_BC_d16 v | ld_DE_d16 v | ld_HL_d16 v | ld_SP_d16 v | ld_ma16_SP v | ld_ma16_A v | ld_A_ma16 v | jp v | jp_NZ v | jp_Z v |
      jp_NC v | jp_C v | call v | call_NZ v | call_Z v | call_NC v | call_C v =>
    refine .trans ?_ (congrArg _ (join_hiByte_loByte v))
    rfl
  all_goals rfl

/-! ### The decoder on a list of bytes -/

/-- A list is accepted exactly when it begins with the bytes of a window as far as the first one's length reaches. -/
theorem decode_ok_iff {bytes rest : List Byte} {i : Instr} : decode bytes = .ok (i, rest) ↔
    ∃ w0 w1 w2, i = decodeWindow w0 w1 w2 ∧ bytes = [w0, w1, w2].take (fetchLength w0) ++ rest := by
  constructor
  · intro h
    unfold decode at h
    split at h
    · cases h
    next w0 tail =>
      split at h
      next one => cases h; exact ⟨w0, 0, 0, rfl, by rw [one]; rfl⟩
      next w1 _ two => cases h; exact ⟨w0, w1, 0, rfl, by rw [two]; rfl⟩
      next w1 w2 _ three => cases h; exact ⟨w0, w1, w2, rfl, by rw [three]; rfl⟩
      · cases h
  · rintro ⟨w0, w1, w2, rfl, rfl⟩
    rw [decodeWindow_masked w0 w1 w2]
    obtain length | length | length := fetchLength_cases w0 <;> simp [decode, length]

/-- Settles O8: the encoding is the window that decodes to the instruction, as far as its length reaches. -/
theorem decodeInvertsEncode : Obligations.DecodeInvertsEncode := by
  intro i rest wellFormed
  have window := decodeWindow_encode wellFormed
  refine decode_ok_iff.2 ⟨_, _, _, window.symm, congrArg (· ++ rest) ?_⟩
  exact (congrArg encode window).symm.trans (encode_decodeWindow ..)

/-- Settles O9: an accepted list begins with the bytes of a window, which are the encoding of what it decodes to. -/
theorem encodeInvertsDecode : Obligations.EncodeInvertsDecode := by
  intro bytes i rest accepted
  obtain ⟨w0, w1, w2, rfl, rfl⟩ := decode_ok_iff.1 accepted
  exact ⟨decodeWindow_wellFormed w0 w1 w2, by rw [encode_decodeWindow]⟩

/-! ### The length and the unused bytes (30_encoding.md R76, R84) -/

theorem decodeCb_not_unimplemented (b : Byte) : (decodeCb b).unimplemented = false := by
  unfold decodeCb
  generalize fieldX b = x, fieldY b = y, fieldZ b = z
  cases x <;> cases y <;> cases z <;> rfl

theorem decodeWindow_unimplemented (w0 w1 w2 : Byte) :
    (decodeWindow w0 w1 w2).unimplemented = decide (w0 ∈ unusedBytes) := by
  revert w0
  refine byte_by_fields _ fun x y z => ?_
  cases x <;> cases y <;> cases z
  case q3.o1.o3 => exact decodeCb_not_unimplemented w1
  all_goals rfl

/-- The size is the number of bytes read, but for an unused byte. -/
theorem decodeWindow_size (w0 w1 w2 : Byte) :
    (decodeWindow w0 w1 w2).size = if w0 ∈ unusedBytes then 0 else fetchLength w0 := by
  have atMostThree : fetchLength w0 ≤ 3 := by have := fetchLength_cases w0; omega
  rw [Instr.size, decodeWindow_unimplemented, encode_decodeWindow, List.length_take_of_le atMostThree]
  simp only [decide_eq_true_eq]

/-- The lists of R76 against the number of bytes read. -/
theorem fetchLength_by_lists (w : Byte) : (if w ∈ unusedBytes then 0 else fetchLength w) =
    if w ∈ twoByteOps then 2 else if w ∈ threeByteOps then 3 else if w ∈ unusedBytes then 0 else 1 := by
  revert w
  refine byte_by_fields _ fun x y z => ?_
  cases x <;> cases y <;> cases z <;> rfl

/-- Settles O10: the size is the number of bytes read, which the lists tell. -/
theorem lengthIsToldByTheFirstByte : Obligations.LengthIsToldByTheFirstByte := fun w0 w1 w2 =>
  (decodeWindow_size w0 w1 w2).trans (fetchLength_by_lists w0)

/-- The table of R215 has (0, 0) at each of the eleven. -/
theorem cycles_unused {w0 : Byte} (unused : w0 ∈ unusedBytes) (w1 : Byte) (taken : Bool) : cycles w0 w1 taken = 0 := by
  have entries : ∀ w ∈ unusedBytes,
      w ≠ 0xCB ∧ (mainCycles.getD (w.toNat / 16) []).getD (w.toNat % 16) (0, 0) = (0, 0) := by decide
  obtain ⟨noPrefix, free⟩ := entries w0 unused
  simp only [cycles, if_neg noPrefix, free, ite_self]

/-- Settles O12: an unused byte decodes to an Unimplemented instruction, of size 0, and its row of the table has no cycles. -/
theorem exactlyElevenBytesAreUnused : Obligations.ExactlyElevenBytesAreUnused := by
  intro w0 w1 w2
  refine ⟨?_, fun unused => ⟨?_, cycles_unused unused w1⟩⟩
  · rw [decodeWindow_unimplemented, decide_eq_true_iff]
  · rw [decodeWindow_size, if_pos unused]

/-- Settles O13: the decoder evaluated on each word. -/
theorem sampleWordsDecode : Obligations.SampleWordsDecode := by
  unfold Obligations.SampleWordsDecode
  and_intros <;> rfl

end Sys2Proof.Proofs

/-! PROOFS. Loads (40_loads.md): the operand of an index, the loads of A from and to memory, and the 16-bit loads. -/

namespace Sys2Proof.Proofs

open Sys2Proof.Machine Sys2Proof.Laws

/-- An instruction answers what its shape leaves. -/
theorem exec_of_shape {i : Instr} {k : Shape} (h : shapeOf i = k) (s : State) : exec i s = .next (k.run s) := h ▸ exec_eq i s

/-! ### The operand of an index in the claims' words (30_encoding.md R70) -/

theorem readSrc_operandOf (s : State) (z : Oct) : s.readSrc (.loc (operandOf z)) = (s.r8 z, s.touch z) := by cases z <;> rfl

/-- Resolving the operand of an index changes nothing, and writing it is `putR8`. -/
theorem writePlace_operandOf (s : State) (y : Oct) (v : Byte) :
    (s.resolve (operandOf y)).2.writePlace (s.resolve (operandOf y)).1 v = s.putR8 y v := by cases y <;> rfl

@[simp] theorem putR8_pc (s : State) (y : Oct) (v : Byte) : (s.putR8 y v).pc = s.pc := by cases y <;> rfl

theorem advance_eq {s t : State} (h : t.pc = s.pc) (n : Word) : t.advance n = { t with pc := s.pc + n } := by
  rw [State.advance, State.pcNext, h]

/-- A load of the operand with index y. -/
theorem load8_operandOf (s : State) (n : Word) (y : Oct) (o : Src8) :
    s.load8 n (operandOf y) o = { (s.readSrc o).2.putR8 y (s.readSrc o).1 with pc := s.pc + n } := by
  rw [State.load8, writePlace_operandOf, advance_eq ((putR8_pc ..).trans (readSrc_pc s o))]

/-! ### The two blocks of 8-bit loads (30_encoding.md R77) -/

/-- The block 0b01yyyzzz loads operand y from operand z, but for HALT's row. -/
theorem shapeOf_loadBlock {y z : Oct} (notHalt : ¬(y = .o6 ∧ z = .o6)) (w1 w2 : Byte) :
    shapeOf (decodeWindow (opByte .q1 y z) w1 w2) = .load8 1 (operandOf y) (.loc (operandOf z)) := by
  cases y <;> cases z
  case o6.o6 => exact absurd ⟨rfl, rfl⟩ notHalt
  all_goals rfl

/-- The column 0b00yyy110 loads operand y with the immediate. -/
theorem shapeOf_immediateColumn (y : Oct) (d8 w2 : Byte) :
    shapeOf (decodeWindow (opByte .q0 y .o6) d8 w2) = .load8 2 (operandOf y) (.imm d8) := by
  cases y <;> rfl

/-- Settles O23: both forms are the load of an indexed operand. -/
theorem registerMemoryAndImmediateLoads : Obligations.RegisterMemoryAndImmediateLoads := by
  refine fun y z d8 w1 w2 s => ⟨fun notHalt => ?_, ?_⟩
  · rw [exec_of_shape (shapeOf_loadBlock notHalt w1 w2), Shape.run, load8_operandOf, readSrc_operandOf]
  · rw [exec_of_shape (shapeOf_immediateColumn y d8 w2), Shape.run, load8_operandOf, State.readSrc]

/-! ### A stored to memory and loaded from it

One rule for each direction, over where the operand resolves to and the state that resolving it leaves, which differs from `s` in the
pair of (HL+) and (HL-) alone (20_memory.md R57, R58, 40_loads.md R91). -/

section

variable {i : Instr} {n : Word} {d : Dest8} {a : Word} {s t : State}

theorem pc_of_resolve (place : s.resolve d = (.byteAt a, t)) : t.pc = s.pc :=
  (congrArg (fun r => r.2.pc) place).symm.trans (resolve_pc s d)

theorem exec_storeA (shape : shapeOf i = .load8 n d (.loc (.reg .A))) (place : s.resolve d = (.byteAt a, t)) :
    exec i s = .next { t.write a s.a with pc := s.pc + n } := by
  have stored : s.load8 n d (.loc (.reg .A)) = (t.write a s.a).advance n :=
    congrArg (fun r : Place × State => (r.2.writePlace r.1 s.a).advance n) place
  rw [exec_of_shape shape, Shape.run, stored, advance_eq ((write_pc ..).trans (pc_of_resolve place))]

theorem exec_loadA (shape : shapeOf i = .load8 n (.reg .A) (.loc d)) (place : s.resolve d = (.byteAt a, t)) :
    exec i s = .next { t.afterRead a with a := t.read a, pc := s.pc + n } := by
  have loaded : s.load8 n (.reg .A) (.loc d) = ((t.afterRead a).set8 .A (t.read a)).advance n :=
    congrArg (fun r : Place × State => ((r.2.touchPlace r.1).set8 .A (r.2.readPlace r.1)).advance n) place
  have unmoved : ((t.afterRead a).set8 .A (t.read a)).pc = t.pc := rfl
  rw [exec_of_shape shape, Shape.run, loaded, advance_eq (unmoved.trans (pc_of_resolve place)), State.set8]

end

/-- Settles O25: A stored and A loaded, the operand resolving to the byte at the pair; in the last four, beside HL stepped. -/
theorem accumulatorLoadsThroughPairs : Obligations.AccumulatorLoadsThroughPairs := by
  intro w1 w2 s bc de hl
  refine ⟨⟨rfl, exec_storeA rfl rfl⟩, ⟨rfl, exec_storeA rfl rfl⟩, ⟨rfl, exec_loadA rfl rfl⟩, ⟨rfl, exec_loadA rfl rfl⟩,
    ⟨rfl, ?_⟩, ⟨rfl, ?_⟩, ⟨rfl, ?_⟩, ⟨rfl, ?_⟩⟩
  · exact exec_storeA (t := s.set16 .HL (hl + 1)) rfl rfl
  · exact exec_storeA (t := s.set16 .HL (hl - 1)) rfl rfl
  · exact exec_loadA (t := s.set16 .HL (hl + 1)) rfl rfl
  · exact exec_loadA (t := s.set16 .HL (hl - 1)) rfl rfl

/-! ### Operand words and high-page addresses as numbers -/

/-- The little-endian word of two operand bytes (20_memory.md R45). -/
theorem join_ofNat (hi lo : Byte) : join hi lo = BitVec.ofNat 16 (lo.toNat + 256 * hi.toNat) := by
  rw [← join_toNat, BitVec.ofNat_toNat, BitVec.setWidth_eq]

theorem highPage_eq_highAddr (offset : Byte) : highPage offset = highAddr offset := by
  rw [highPage, highAddr, BitVec.ofNat_add]
  exact congrArg (0xFF00#16 + ·) (BitVec.ofNat_toNat 16 offset).symm

/-- Settles O26: A stored and A loaded, at the operand's word or in the high page. -/
theorem absoluteAndHighPageLoads : Obligations.AbsoluteAndHighPageLoads := by
  intro w1 w2 s a16
  have word : join w2 w1 = a16 := join_ofNat w2 w1
  rw [← word, ← highPage_eq_highAddr, ← highPage_eq_highAddr]
  exact ⟨exec_storeA rfl rfl, exec_loadA rfl rfl, exec_storeA rfl rfl, exec_loadA rfl rfl, exec_storeA rfl rfl, exec_loadA rfl rfl,
    rfl, rfl, rfl, rfl, rfl, rfl⟩

/-! ### 16-bit loads -/

/-- A 16-bit store in the claims' words: the low byte of the word, then the high one (20_memory.md R51). -/
theorem write16_ofNat (s : State) (a v : Word) :
    s.write16 a v = (s.write a (BitVec.ofNat 8 v.toNat)).write (a + 1) (BitVec.ofNat 8 (v.toNat / 256)) := by
  rw [State.write16, loByte_ofNat, hiByte_ofNat]

/-- Settles O27: the operand bytes are taken as those of one word `v`; SP is stored as `write16_ofNat` says. -/
theorem sixteenBitLoads : Obligations.SixteenBitLoads := by
  intro w1 w2 s
  obtain ⟨v, rfl, rfl⟩ : ∃ v, w1 = loByte v ∧ w2 = hiByte v := ⟨join w2 w1, (loByte_join ..).symm, (hiByte_join ..).symm⟩
  have operand : join (hiByte v) (loByte v) = v := join_hiByte_loByte v
  have stored := congrArg (fun t : State => (.next (t.advance 3) : Result)) (write16_ofNat s v s.sp)
  rw [← join_ofNat, operand]
  exact ⟨⟨congrArg Instr.ld_BC_d16 operand, exec_of_shape rfl s⟩, ⟨congrArg Instr.ld_DE_d16 operand, exec_of_shape rfl s⟩,
    ⟨congrArg Instr.ld_HL_d16 operand, exec_of_shape rfl s⟩, ⟨congrArg Instr.ld_SP_d16 operand, exec_of_shape rfl s⟩,
    ⟨congrArg Instr.ld_ma16_SP operand, (exec_of_shape rfl s).trans stored⟩, ⟨rfl, exec_of_shape rfl s⟩⟩

end Sys2Proof.Proofs

/-! PROOFS. Increment and decrement (41_incdec.md): the read and write of an indexed operand, its arithmetic as numbers, and the pairs. -/

namespace Sys2Proof.Proofs

open Sys2Proof.Machine Sys2Proof.Laws

/-! ### Reading and writing the operand of an index (30_encoding.md R70) -/

/-- A read and a write of the operand with index y, in the claims' words. -/
theorem modify8_operandOf (s : State) (n : Word) (y : Oct) (g : Byte → Bool → ByteOut) :
    s.modify8 n (operandOf y) g =
      let out := g (s.r8 y) s.flagC
      { (s.touch y).putR8 y out.res with f := packFlags out.z out.n out.h out.c s.f, pc := s.pc + n } := by
  cases y <;> rfl

/-- The operand reads as the result that was written, unless it is (HL), where the `Bus` answers the read (20_memory.md R44). -/
theorem modify8_r8 {y : Oct} (register : y ≠ .o6) (s : State) (n : Word) (g : Byte → Bool → ByteOut) :
    (s.modify8 n (operandOf y) g).r8 y = (g (s.r8 y) s.flagC).res := by
  rw [modify8_operandOf]
  cases y
  case o6 => exact absurd rfl register
  all_goals rfl

theorem modify8_flagC (s : State) (n : Word) (y : Oct) (g : Byte → Bool → ByteOut) :
    (s.modify8 n (operandOf y) g).flagC = (g (s.r8 y) s.flagC).c := by
  rw [modify8_operandOf]; exact packFlags_bit4 ..

/-! ### The bytes as numbers (00_scope.md R12) -/

theorem nibble_eq_lowNibble (v : Byte) : nibble v = lowNibble v :=
  ((BitVec.toNat_and ..).trans (Nat.and_two_pow_sub_one_eq_mod v.toNat 4)).symm

/-- `wrap8(n)` is zero. -/
theorem ofNat_beq_zero (n : Nat) : (BitVec.ofNat 8 n == 0#8) = (n % 256 == 0) := by
  rw [Bool.eq_iff_iff, beq_iff_eq, beq_iff_eq, ← BitVec.toNat_inj, BitVec.toNat_ofNat]; rfl

theorem add_ofNat (v : Byte) (n : Nat) : v + BitVec.ofNat 8 n = BitVec.ofNat 8 (v.toNat + n) := by
  rw [BitVec.ofNat_add, BitVec.ofNat_toNat, BitVec.setWidth_eq]

theorem incByte_eq (v : Byte) (c : Bool) : incByte v c =
    ⟨BitVec.ofNat 8 (v.toNat + 1), (v.toNat + 1) % 256 == 0, false, lowNibble v == 0x0F, c⟩ := by
  have sum : v + 1 = BitVec.ofNat 8 (v.toNat + 1) := add_ofNat v 1
  rw [incByte, sum, ofNat_beq_zero, nibble_eq_lowNibble]; rfl

theorem decByte_eq (v : Byte) (c : Bool) : decByte v c =
    ⟨BitVec.ofNat 8 (v.toNat + 255), v.toNat == 1, true, lowNibble v == 0x00, c⟩ := by
  have difference : v - 1 = BitVec.ofNat 8 (v.toNat + 255) := (BitVec.sub_eq_add_neg v 1).trans (add_ofNat v 255)
  have zero : ((v.toNat + 255) % 256 == 0) = (v.toNat == 1) := by
    rw [Bool.eq_iff_iff, beq_iff_eq, beq_iff_eq]
    have := v.isLt
    omega
  rw [decByte, difference, ofNat_beq_zero, zero, nibble_eq_lowNibble]; rfl

/-! ### The columns of INC and DEC (30_encoding.md R77) -/

theorem shapeOf_incColumn (y : Oct) (w1 w2 : Byte) :
    shapeOf (decodeWindow (opByte .q0 y .o4) w1 w2) = .modify8 1 (operandOf y) incByte := by
  cases y <;> rfl

theorem shapeOf_decColumn (y : Oct) (w1 w2 : Byte) :
    shapeOf (decodeWindow (opByte .q0 y .o5) w1 w2) = .modify8 1 (operandOf y) decByte := by
  cases y <;> rfl

/-- Settles O28: both columns modify an indexed operand, by `incByte` and `decByte` as numbers. -/
theorem byteIncrementAndDecrement : Obligations.ByteIncrementAndDecrement := by
  refine fun y w1 w2 s => ⟨?_, ?_⟩
  · rw [exec_of_shape (shapeOf_incColumn y w1 w2), Shape.run, modify8_operandOf, incByte_eq]
  · rw [exec_of_shape (shapeOf_decColumn y w1 w2), Shape.run, modify8_operandOf, decByte_eq]

/-- Settles O30: the register holds `v + 1 - 1`, and both forms pass C on. -/
theorem incThenDecRestoresTheRegister : Obligations.IncThenDecRestoresTheRegister := by
  intro y w1 w2 s register
  refine ⟨_, _, exec_of_shape (shapeOf_incColumn y w1 w2) s, exec_of_shape (shapeOf_decColumn y w1 w2) _, ?_, ?_⟩
  · rw [Shape.run, modify8_r8 register, Shape.run, modify8_r8 register]
    exact BitVec.add_sub_cancel (s.r8 y) 1
  · rw [Shape.run, modify8_flagC, Shape.run]
    exact modify8_flagC s 1 y incByte

/-- Settles O29: each is the write of its pair with one more or one less (10_state.md R26). -/
theorem pairIncrementAndDecrement : Obligations.PairIncrementAndDecrement := by
  intro w1 w2 s bc de hl
  refine ⟨⟨rfl, ?_⟩, ⟨rfl, ?_⟩, ⟨rfl, ?_⟩, ⟨rfl, ?_⟩, ⟨rfl, ?_⟩, ⟨rfl, ?_⟩, ⟨rfl, ?_⟩, ⟨rfl, ?_⟩⟩
  all_goals exact exec_of_shape rfl s

end Sys2Proof.Proofs

/-! PROOFS. The 8-bit ALU (42_alu8.md): the block and the immediate column by field y, and the arithmetic of each operation as numbers. -/

namespace Sys2Proof.Proofs

open Sys2Proof.Machine Sys2Proof.Laws

/-! ### The block and the column by field y (30_encoding.md R74, R80) -/

/-- The operation of field y; `shapeOf_aluBlock` and `shapeOf_aluColumn` tie it to the decoder. -/
def aluOpOf (y : Oct) : AluOp :=
  match y with
  | .o0 => .ADD
  | .o1 => .ADC
  | .o2 => .SUB
  | .o3 => .SBC
  | .o4 => .AND
  | .o5 => .XOR
  | .o6 => .OR
  | .o7 => .CP

theorem shapeOf_aluBlock (y z : Oct) (w1 w2 : Byte) :
    shapeOf (decodeWindow (opByte .q2 y z) w1 w2) = .alu 1 (aluOpOf y) (.loc (operandOf z)) := by
  cases y <;> cases z <;> rfl

theorem shapeOf_aluColumn (y : Oct) (d8 w2 : Byte) :
    shapeOf (decodeWindow (opByte .q3 y .o6) d8 w2) = .alu 2 (aluOpOf y) (.imm d8) := by
  cases y <;> rfl

/-- An indexed operand is read first, and then taken as an immediate is. -/
theorem alu_operandOf (s : State) (n : Word) (op : AluOp) (z : Oct) :
    s.alu n op (.loc (operandOf z)) = (s.touch z).alu n op (.imm (s.r8 z)) := by
  rw [State.alu, readSrc_operandOf]; rfl

section

variable {s t : State} {w1 w2 : Byte}

/-- The row 0b10yyyzzz, by what the operation of field y does with the operand's value. -/
theorem exec_aluBlock (y : Oct) {z : Oct} (outcome : (s.touch z).alu 1 (aluOpOf y) (.imm (s.r8 z)) = t) :
    exec (decodeWindow (opByte .q2 y z) w1 w2) s = .next t := by
  rw [exec_of_shape (shapeOf_aluBlock y z w1 w2), Shape.run, alu_operandOf, outcome]

/-- The row 0b11yyy110, by what the operation of field y does with the immediate. -/
theorem exec_aluColumn (y : Oct) (outcome : s.alu 2 (aluOpOf y) (.imm w1) = t) :
    exec (decodeWindow (opByte .q3 y .o6) w1 w2) s = .next t := by
  rw [exec_of_shape (shapeOf_aluColumn y w1 w2), Shape.run, outcome]

end

/-! ### Reading the operand leaves A and F (20_memory.md R44) -/

@[simp] theorem touch_a (s : State) (z : Oct) : (s.touch z).a = s.a := by cases z <;> rfl

@[simp] theorem touch_f (s : State) (z : Oct) : (s.touch z).f = s.f := by cases z <;> rfl

@[simp] theorem touch_carryIn (s : State) (z : Oct) : (s.touch z).carryIn = s.carryIn := by
  rw [State.carryIn, State.flagC, touch_f]; rfl

@[simp] theorem touch_difference (s : State) (z : Oct) (b : Byte) (c : Nat) :
    (s.touch z).difference b c = s.difference b c := by
  rw [State.difference, touch_a]; rfl

/-! ### Sums and differences as numbers (00_scope.md R12) -/

theorem bit_eq_toNat (c : Bool) : bit c = c.toNat := by cases c <;> rfl

theorem ofNat_mod_256 (n : Nat) : BitVec.ofNat 8 (n % 256) = BitVec.ofNat 8 n :=
  BitVec.eq_of_toNat_eq (Nat.mod_mod n 256)

theorem ofInt_sub {n : Nat} (x y : Int) : BitVec.ofInt n (x - y) = BitVec.ofInt n x - BitVec.ofInt n y := by
  rw [Int.sub_eq_add_neg, BitVec.ofInt_add, BitVec.ofInt_neg, BitVec.sub_eq_add_neg]

/-- `wrap8(k)` is zero. -/
theorem ofInt_beq_zero (k : Int) : (BitVec.ofInt 8 k == 0#8) = (k % 256 == 0) := by
  rw [Bool.eq_iff_iff, beq_iff_eq, beq_iff_eq, ← BitVec.toNat_inj, BitVec.toNat_ofInt, BitVec.toNat_ofNat]
  omega

/-- `a - b - c` is taken on the bytes or on their numbers. -/
theorem sub_sub_ofNat (a b : Byte) (c : Nat) :
    a - b - BitVec.ofNat 8 c = BitVec.ofInt 8 ((a.toNat : Int) - b.toNat - c) := by
  simp only [ofInt_sub, BitVec.ofInt_natCast, BitVec.ofNat_toNat, BitVec.setWidth_eq]

theorem addByte_eq (a b : Byte) (c : Bool) :
    addByte a b c =
      let sum := a.toNat + b.toNat + c.toNat
      ⟨BitVec.ofNat 8 (sum % 256), sum % 256 == 0, false, decide (lowNibble a + lowNibble b + c.toNat > 0x0F),
        decide (sum > 0xFF)⟩ := by
  simp only [addByte, ofNat_mod_256, ofNat_beq_zero, nibble_eq_lowNibble, bit_eq_toNat]

theorem subByte_eq (a b : Byte) (c : Bool) :
    subByte a b c =
      let difference : Int := a.toNat - b.toNat - c.toNat
      ⟨BitVec.ofInt 8 difference, difference % 256 == 0, true, decide (lowNibble a < lowNibble b + c.toNat),
        decide (a.toNat < b.toNat + c.toNat)⟩ := by
  simp only [subByte, sub_sub_ofNat, ofInt_beq_zero, nibble_eq_lowNibble, bit_eq_toNat]

/-! ### The operations on A and a value, in the claims' words -/

section

variable (s : State) (b : Byte) (n : Word)

/-- What an operation leaves: A, the flags, and PC past the instruction. -/
theorem alu_imm (op : AluOp) : s.alu n op (.imm b) =
    let out := aluByte op s.a b s.flagC
    { s with a := out.res, f := packFlags out.z out.n out.h out.c s.f, pc := s.pc + n } := rfl

theorem alu_ADD : s.alu n .ADD (.imm b) = s.added b 0 n := by
  rw [alu_imm, aluByte, addByte_eq]; rfl

theorem alu_ADC : s.alu n .ADC (.imm b) = s.added b s.carryIn n := by
  rw [alu_imm, aluByte, addByte_eq]; rfl

theorem alu_SUB : s.alu n .SUB (.imm b) = s.subtracted b 0 (s.difference b 0) n := by
  rw [alu_imm, aluByte, subByte_eq]; rfl

theorem alu_SBC : s.alu n .SBC (.imm b) = s.subtracted b s.carryIn (s.difference b s.carryIn) n := by
  rw [alu_imm, aluByte, subByte_eq]; rfl

/-- SUB's flags, A written with its own value (R131). -/
theorem alu_CP : s.alu n .CP (.imm b) = s.subtracted b 0 s.a n := by
  rw [alu_imm, aluByte, subByte_eq]; rfl

theorem alu_AND : s.alu n .AND (.imm b) = s.combined (s.a &&& b) true n := rfl

theorem alu_XOR : s.alu n .XOR (.imm b) = s.combined (s.a ^^^ b) false n := rfl

theorem alu_OR : s.alu n .OR (.imm b) = s.combined (s.a ||| b) false n := rfl

end

/-! ### The statements

In the block the operation acts on the state that reading the operand leaves, whose A and carry are those of `s`. -/

/-- Settles O31: fields y = 0 and y = 1, the sums taken as numbers. -/
theorem addAndAdc : Obligations.AddAndAdc := by
  refine fun z w1 w2 s => ⟨?_, ?_, ?_, ?_⟩
  · exact exec_aluBlock .o0 (alu_ADD ..)
  · exact exec_aluColumn .o0 (alu_ADD ..)
  · rw [← touch_carryIn s z]
    exact exec_aluBlock .o1 (alu_ADC ..)
  · exact exec_aluColumn .o1 (alu_ADC ..)

/-- Settles O32: fields y = 2, y = 3 and y = 7, the differences taken as numbers. -/
theorem subSbcAndCp : Obligations.SubSbcAndCp := by
  refine fun z w1 w2 s => ⟨?_, ?_, ?_, ?_, ?_, ?_⟩
  · rw [← touch_difference s z]
    exact exec_aluBlock .o2 (alu_SUB ..)
  · exact exec_aluColumn .o2 (alu_SUB ..)
  · rw [← touch_difference s z, ← touch_carryIn s z]
    exact exec_aluBlock .o3 (alu_SBC ..)
  · exact exec_aluColumn .o3 (alu_SBC ..)
  · rw [← touch_a s z]
    exact exec_aluBlock .o7 (alu_CP ..)
  · exact exec_aluColumn .o7 (alu_CP ..)

/-- Settles O33: fields y = 4, y = 5 and y = 6. -/
theorem logicalOperations : Obligations.LogicalOperations := by
  refine fun z w1 w2 s => ⟨?_, ?_, ?_, ?_, ?_, ?_⟩
  · rw [← touch_a s z]
    exact exec_aluBlock .o4 (alu_AND ..)
  · exact exec_aluColumn .o4 (alu_AND ..)
  · rw [← touch_a s z]
    exact exec_aluBlock .o5 (alu_XOR ..)
  · exact exec_aluColumn .o5 (alu_XOR ..)
  · rw [← touch_a s z]
    exact exec_aluBlock .o6 (alu_OR ..)
  · exact exec_aluColumn .o6 (alu_OR ..)

end Sys2Proof.Proofs

/-! PROOFS. 16-bit arithmetic (43_alu16.md): the sums and the carries of ADD HL,rr and of SP plus a signed byte as numbers. -/

namespace Sys2Proof.Proofs

open Sys2Proof.Machine Sys2Proof.Laws

/-- Masking with the `n` low bits takes the remainder by `2 ^ n`. -/
theorem toNat_and_lowBits (v : Word) {mask : Word} {n : Nat} (low : mask.toNat = 2 ^ n - 1) :
    (v &&& mask).toNat = v.toNat % 2 ^ n := by
  rw [BitVec.toNat_and, low, Nat.and_two_pow_sub_one_eq_mod]

/-! ### ADD HL,rr (43_alu16.md R132) -/

theorem halfCarry16_eq (h v : Word) :
    halfCarry16 h v = decide ((h &&& 0x0FFF#16).toNat + (v &&& 0x0FFF#16).toNat > 0x0FFF) := by
  rw [halfCarry16, toNat_and_lowBits h (n := 12) rfl, toNat_and_lowBits v (n := 12) rfl]; rfl

/-- The high byte of a sum of words. -/
theorem hiByte_add (h v : Word) : hiByte (h + v) = BitVec.ofNat 8 ((h.toNat + v.toNat) / 256) := by
  apply BitVec.eq_of_toNat_eq
  rw [hiByte_toNat, BitVec.toNat_add, BitVec.toNat_ofNat]
  omega

theorem loByte_add (h v : Word) : loByte (h + v) = BitVec.ofNat 8 (h.toNat + v.toNat) := by
  apply BitVec.eq_of_toNat_eq
  rw [loByte_toNat, BitVec.toNat_add, BitVec.toNat_ofNat]
  omega

theorem addHL_eq_addedHL (s : State) (p : Reg16) : s.addHL 1 p = s.addedHL (s.get16 p) := by
  rw [State.addedHL, ← halfCarry16_eq, ← hiByte_add, ← loByte_add]; rfl

theorem exec_addHL {i : Instr} {p : Reg16} (shape : shapeOf i = .addHL p) (s : State) :
    exec i s = .next (s.addedHL (s.get16 p)) := by
  rw [exec_of_shape shape, Shape.run, addHL_eq_addedHL]

/-- Settles O34: each form is `addHL` of its pair or SP. -/
theorem addToHl : Obligations.AddToHl := by
  refine fun w1 w2 s => ⟨⟨rfl, ?_⟩, ⟨rfl, ?_⟩, ⟨rfl, ?_⟩, ⟨rfl, ?_⟩⟩
  · exact exec_addHL (p := .BC) rfl s
  · exact exec_addHL (p := .DE) rfl s
  · exact exec_addHL (p := .HL) rfl s
  · exact exec_addHL (p := .SP) rfl s

/-! ### SP plus a signed byte (43_alu16.md R133, R134) -/

/-- The sign extension adds the byte's signed value. -/
theorem add_sext16 (v : Word) (e : Byte) : v + sext16 e = BitVec.ofInt 16 (v.toNat + e.toInt) := by
  rw [BitVec.ofInt_add, BitVec.ofInt_natCast, BitVec.ofNat_toNat, BitVec.setWidth_eq]; rfl

/-- F of both forms; the carries are out of bits 3 and 7 of the unsigned low bytes. -/
theorem packFlags_sp (s : State) (e : Byte) :
    packFlags false false (halfCarrySp s.sp e) (carrySp s.sp e) s.f = s.spFlags e := by
  rw [State.spFlags, toNat_and_lowBits s.sp (n := 4) rfl, toNat_and_lowBits s.sp (n := 8) rfl, ← nibble_eq_lowNibble]; rfl

/-- Settles O35: both forms write the sum, to SP and to HL, under the same F. -/
theorem spPlusSignedByte : Obligations.SpPlusSignedByte := by
  intro e w2 s
  rw [State.spPlus, ← add_sext16, ← packFlags_sp]
  exact ⟨⟨rfl, exec_of_shape rfl s⟩, ⟨rfl, exec_of_shape rfl s⟩⟩

end Sys2Proof.Proofs

/-! PROOFS. Rotates and shifts (44_rotate_shift.md): each operation as arithmetic on the operand's value, and the accumulator and the
0xCB forms. -/

namespace Sys2Proof.Proofs

open Sys2Proof.Machine Sys2Proof.Laws

/-! ### The bits that are shifted out, as numbers -/

theorem toNat_topBit (v : Byte) : (v.getLsbD 7).toNat = v.toNat / 128 := by
  have bit7 : (v.getLsbD 7).toNat = v.toNat / 128 % 2 := Nat.toNat_testBit v.toNat 7
  omega

theorem toNat_lowBit (v : Byte) : (v.getLsbD 0).toNat = v.toNat % 2 := by
  have bit0 : (v.getLsbD 0).toNat = v.toNat / 1 % 2 := Nat.toNat_testBit v.toNat 0
  rw [bit0, Nat.div_one]

theorem toNat_beq_one (b : Bool) : (b.toNat == 1) = b := by cases b <;> rfl

theorem topBit_eq (v : Byte) : v.getLsbD 7 = (v.toNat / 128 == 1) := by rw [← toNat_topBit, toNat_beq_one]

theorem lowBit_eq (v : Byte) : v.getLsbD 0 = (v.toNat % 2 == 1) := by rw [← toNat_lowBit, toNat_beq_one]

/-! ### The shifts as numbers -/

/-- Two bytes that share no bit, `x` having its bits from position `i` up and `y` its bits below, are joined by their sum. -/
theorem toNat_or_disjoint {x y : Byte} {i a : Nat} (above : x.toNat = 2 ^ i * a) (below : y.toNat < 2 ^ i) :
    (x ||| y).toNat = x.toNat + y.toNat := by
  rw [BitVec.toNat_or, above, Nat.two_pow_add_eq_or_of_lt below]

theorem toNat_ofNat_bit (b : Bool) : (BitVec.ofNat 8 (bit b)).toNat = b.toNat := by cases b <;> rfl

theorem toNat_ofNat_bit_shiftLeft (b : Bool) : (BitVec.ofNat 8 (bit b) <<< 7).toNat = 128 * b.toNat := by cases b <;> rfl

theorem toNat_shiftRight_one (v : Byte) : (v >>> 1).toNat = v.toNat / 2 := by
  rw [BitVec.toNat_ushiftRight, Nat.shiftRight_eq_div_pow, Nat.pow_one]

theorem toNat_shiftLeft (v : Byte) (b : Bool) : (shiftLeft v b).toNat = (2 * v.toNat + b.toNat) % 256 := by
  have doubled : (v <<< 1).toNat = 2 ^ 1 * (v.toNat % 128) := by
    rw [BitVec.toNat_shiftLeft, Nat.shiftLeft_eq]
    omega
  have small := b.toNat_lt
  rw [shiftLeft, toNat_or_disjoint doubled ((toNat_ofNat_bit b).trans_lt small), doubled, toNat_ofNat_bit]
  omega

theorem toNat_shiftRight (v : Byte) (b : Bool) : (shiftRight v b).toNat = v.toNat / 2 + 128 * b.toNat := by
  have half : (v >>> 1).toNat < 2 ^ 7 := by
    rw [toNat_shiftRight_one]
    omega
  rw [shiftRight, BitVec.or_comm, toNat_or_disjoint (toNat_ofNat_bit_shiftLeft b) half, toNat_ofNat_bit_shiftLeft,
    toNat_shiftRight_one, Nat.add_comm]

/-- The bit shifted out comes in at the other end (R141). -/
theorem toNat_rotateLeft (v : Byte) : (shiftLeft v (v.getLsbD 7)).toNat = (2 * v.toNat + v.toNat / 128) % 256 := by
  rw [toNat_shiftLeft, toNat_topBit]

/-- The bit shifted out comes in at the other end (R142). -/
theorem toNat_rotateRight (v : Byte) : (shiftRight v (v.getLsbD 0)).toNat = v.toNat / 2 + 128 * (v.toNat % 2) := by
  rw [toNat_shiftRight, toNat_lowBit]

/-- SRA keeps bit 7, as a right shift that brings it in again does (R146). -/
theorem toNat_arithmeticShift (v : Byte) : ((v >>> 1) ||| (v &&& 0x80#8)).toNat = v.toNat / 2 + 128 * (v.toNat / 128) := by
  have kept : v &&& 0x80#8 = BitVec.ofNat 8 (bit (v.getLsbD 7)) <<< 7 := by
    rw [show 0x80#8 = BitVec.twoPow 8 7 from rfl, BitVec.and_twoPow]
    cases v.getLsbD 7 <;> rfl
  rw [kept, ← toNat_topBit, ← toNat_shiftRight, shiftRight]

/-- SWAP exchanges the two digits (R147). -/
theorem toNat_swapped (v : Byte) : (((v &&& 0x0F) <<< 4) ||| (v >>> 4)).toNat = 16 * (v.toNat % 16) + v.toNat / 16 := by
  have low : (v &&& 0x0F).toNat = v.toNat % 16 := (nibble_eq_lowNibble v).symm
  have raised : ((v &&& 0x0F) <<< 4).toNat = 16 * (v.toNat % 16) := by
    rw [BitVec.toNat_shiftLeft, low, Nat.shiftLeft_eq]
    omega
  have lowered : (v >>> 4).toNat = v.toNat / 16 := by rw [BitVec.toNat_ushiftRight, Nat.shiftRight_eq_div_pow]
  have below : (v >>> 4).toNat < 2 ^ 4 := by omega
  rw [toNat_or_disjoint (i := 4) raised below, raised, lowered]

/-! ### The operation of field y as numbers (R141 to R148) -/

theorem rotByte_eq_rotOut (op : RotOp) (v : Byte) (c : Bool) :
    rotByte op v c = rotOut (rotByte op v c).res (rotByte op v c).c := by
  cases op <;> rfl

theorem rotByte_res_toNat (y : Oct) (v : Byte) (c : Bool) :
    (rotByte (rotOpOf y) v c).res.toNat = (rotated y v.toNat c.toNat).1 := by
  cases y
  case o0 => exact toNat_rotateLeft v
  case o1 => exact toNat_rotateRight v
  case o2 => exact toNat_shiftLeft ..
  case o3 => exact toNat_shiftRight ..
  case o4 => exact toNat_shiftLeft ..
  case o5 => exact toNat_arithmeticShift v
  case o6 => exact toNat_swapped v
  case o7 => exact toNat_shiftRight_one v

theorem rotByte_carry (y : Oct) (v : Byte) (c : Bool) : (rotByte (rotOpOf y) v c).c = (rotated y v.toNat c.toNat).2 := by
  cases y
  case o6 => rfl
  case o0 | o2 | o4 => exact topBit_eq v
  case o1 | o3 | o5 | o7 => exact lowBit_eq v

theorem rotByte_res (y : Oct) (v : Byte) (c : Bool) :
    (rotByte (rotOpOf y) v c).res = BitVec.ofNat 8 (rotated y v.toNat c.toNat).1 := by
  rw [← rotByte_res_toNat, BitVec.ofNat_toNat, BitVec.setWidth_eq]

theorem beq_zero_toNat (v : Byte) : (v == 0#8) = (v.toNat == 0) := by
  rw [Bool.eq_iff_iff, beq_iff_eq, beq_iff_eq, ← BitVec.toNat_inj]; rfl

/-- The whole outcome of the operation of field y: result, Z, N, H and C (R135). -/
theorem rotByte_eq (y : Oct) (v : Byte) (c : Bool) : rotByte (rotOpOf y) v c =
    let r := rotated y v.toNat c.toNat
    ⟨BitVec.ofNat 8 r.1, r.1 == 0, false, false, r.2⟩ := by
  rw [rotByte_eq_rotOut, rotOut, beq_zero_toNat, rotByte_res_toNat, rotByte_res, rotByte_carry]

/-! ### The accumulator forms (R137 to R140) -/

/-- An accumulator rotate leaves the 0xCB form's value and carry, and Z, N and H clear. -/
theorem rotA_eq (s : State) (y : Oct) : s.rotA 1 (rotOpOf y) =
    let r := rotated y s.a.toNat s.carryIn
    { s with a := BitVec.ofNat 8 r.1, f := packFlags false false false r.2 s.f, pc := s.pc + 1 } := by
  rw [State.rotA, rotByte_eq]; rfl

/-- Settles O36: each form is `rotA` of its operation, which clears Z. -/
theorem accumulatorRotates : Obligations.AccumulatorRotates := by
  intro w1 w2 s out
  have outcome {i : Instr} (y : Oct) (shape : shapeOf i = .rotA 1 (rotOpOf y)) : exec i s = .next (out y) := by
    rw [exec_of_shape shape, Shape.run, rotA_eq]
  exact ⟨⟨rfl, outcome .o0 rfl⟩, ⟨rfl, outcome .o1 rfl⟩, ⟨rfl, outcome .o2 rfl⟩, ⟨rfl, outcome .o3 rfl⟩⟩

/-! ### The 0xCB forms (R141 to R148) -/

/-- The block 0b00yyyzzz after 0xCB modifies operand z by the operation of field y. -/
theorem shapeOf_rotBlock (y z : Oct) (w2 : Byte) :
    shapeOf (decodeWindow 0xCB (opByte .q0 y z) w2) = .modify8 2 (operandOf z) (rotByte (rotOpOf y)) := by
  cases y <;> cases z <;> rfl

/-- Settles O37: the modified operand is the one with index z, and its new value is the operation's as numbers. -/
theorem prefixedRotatesAndShifts : Obligations.PrefixedRotatesAndShifts := by
  intro y z w2 s
  rw [exec_of_shape (shapeOf_rotBlock y z w2), Shape.run, modify8_operandOf, rotByte_eq]; rfl

end Sys2Proof.Proofs

/-! PROOFS. Bit test, reset and set (45_bit.md): the 0xCB space by the fields of its opcode, and the single bits of the operand. -/

namespace Sys2Proof.Proofs

open Sys2Proof.Machine Sys2Proof.Laws

/-! ### The opcode's own fields (30_encoding.md R69, R81) -/

@[simp] theorem fieldX_opByte (x : Quad) (y z : Oct) : fieldX (opByte x y z) = x := by
  cases x <;> cases y <;> cases z <;> rfl

@[simp] theorem fieldY_opByte (x : Quad) (y z : Oct) : fieldY (opByte x y z) = y := by
  cases x <;> cases y <;> cases z <;> rfl

@[simp] theorem fieldZ_opByte (x : Quad) (y z : Oct) : fieldZ (opByte x y z) = z := by
  cases x <;> cases y <;> cases z <;> rfl

/-- The byte after 0xCB alone names the shape (R83). -/
theorem exec_prefixed (b w2 : Byte) (s : State) : exec (decodeWindow 0xCB b w2) s = .next ((cbShape b).run s) :=
  exec_of_shape (shapeOf_decodeCb b) s

theorem cbShape_bitBlock (n z : Oct) : cbShape (opByte .q1 n z) = .testBit 2 n (operandOf z) := by
  simp only [cbShape, fieldX_opByte, fieldY_opByte, fieldZ_opByte]

theorem cbShape_resBlock (n z : Oct) : cbShape (opByte .q2 n z) = .rewrite8 2 (operandOf z) (resetBit n) := by
  simp only [cbShape, fieldX_opByte, fieldY_opByte, fieldZ_opByte]

theorem cbShape_setBlock (n z : Oct) : cbShape (opByte .q3 n z) = .rewrite8 2 (operandOf z) (setBit n) := by
  simp only [cbShape, fieldX_opByte, fieldY_opByte, fieldZ_opByte]

/-! ### A test and a rewrite of the operand of an index, in the claims' words -/

theorem testBit_operandOf (s : State) (n : Word) (k z : Oct) :
    s.testBit n k (operandOf z) =
      { s.touch z with f := packFlags (!(s.r8 z).getLsbD k.value) false true s.flagC s.f, pc := s.pc + n } := by
  cases z <;> rfl

theorem rewrite8_operandOf (s : State) (n : Word) (z : Oct) (g : Byte → Byte) :
    s.rewrite8 n (operandOf z) g = { (s.touch z).putR8 z (g (s.r8 z)) with pc := s.pc + n } := by
  cases z <;> rfl

/-! ### The bits of a byte -/

/-- A bit is clear when it is the remainder 0 of the byte shifted down as a number. -/
theorem not_getLsbD_eq (v : Byte) (i : Nat) : (!v.getLsbD i) = (v.toNat / 2 ^ i % 2 == 0) := by
  rw [← Nat.toNat_testBit, BitVec.testBit_toNat]
  cases v.getLsbD i <;> rfl

/-- The mask `1 << n` has bit n alone. -/
theorem getLsbD_bitMask (n : Oct) (i : Nat) : (1#8 <<< n.value).getLsbD i = decide (i = n.value) := by
  have small : n.value < 8 := by cases n <;> decide
  rw [← BitVec.twoPow_eq, BitVec.getLsbD_twoPow, decide_eq_true small, Bool.true_and,
    decide_eq_decide.mpr eq_comm]

theorem getLsbD_resetBit (n : Oct) (v : Byte) {i : Nat} (inByte : i < 8) :
    (resetBit n v).getLsbD i = if i = n.value then false else v.getLsbD i := by
  rw [resetBit, BitVec.getLsbD_and, BitVec.getLsbD_not, getLsbD_bitMask, decide_eq_true inByte]
  by_cases forced : i = n.value <;> simp [forced]

theorem getLsbD_setBit (n : Oct) (v : Byte) (i : Nat) :
    (setBit n v).getLsbD i = if i = n.value then true else v.getLsbD i := by
  rw [setBit, BitVec.getLsbD_or, getLsbD_bitMask]
  by_cases forced : i = n.value <;> simp [forced]

/-! ### The statements -/

/-- Settles O38: the block 0b01nnnzzz tests operand z, and Z is the clear bit as a number. -/
theorem bitTests : Obligations.BitTests := by
  intro n z w2 s
  rw [exec_prefixed, cbShape_bitBlock, Shape.run, testBit_operandOf, not_getLsbD_eq]

/-- Settles O39: the blocks 0b10nnnzzz and 0b11nnnzzz rewrite operand z with `resetBit` and `setBit`, which force bit n alone. -/
theorem bitResetAndSet : Obligations.BitResetAndSet := by
  refine fun n z w2 s => ⟨⟨resetBit n (s.r8 z), ?_, fun i => getLsbD_resetBit n _⟩,
    ⟨setBit n (s.r8 z), ?_, fun i _ => getLsbD_setBit n _ i⟩⟩
  · rw [exec_prefixed, cbShape_resBlock, Shape.run, rewrite8_operandOf]
  · rw [exec_prefixed, cbShape_setBlock, Shape.run, rewrite8_operandOf]

end Sys2Proof.Proofs

/-! PROOFS. Control transfers and the stack (46_control.md): jumps, calls and returns, taken and not taken, PUSH and POP, and that a
push followed by a pop gives the word back. -/

namespace Sys2Proof.Proofs

open Sys2Proof.Machine Sys2Proof.Laws

/-! ### Jumps (46_control.md R156 to R160) -/

/-- A conditional jump writes PC alone: to its target, or past the instruction (46_control.md R153). -/
theorem whenCond_jumpTo (s : State) (cc : Cond) (n a : Word) :
    s.whenCond cc n (s.jumpTo a) = { s with pc := if s.cond cc then a else s.pc + n } := by
  unfold State.whenCond
  split <;> rfl

/-- The target of a relative jump as an integer sum, wrapped. -/
theorem pcNext_add_sext16 (s : State) (e : Byte) : s.pcNext 2 + sext16 e = s.relTarget e := by
  rw [State.relTarget, BitVec.ofInt_add, BitVec.ofInt_add, BitVec.ofInt_natCast, BitVec.ofNat_toNat, BitVec.setWidth_eq]; rfl

theorem exec_jumpRel {i : Instr} {e : Byte} (shape : shapeOf i = .jumpRel e) (s : State) :
    exec i s = .next { s with pc := s.relTarget e } := by
  rw [exec_of_shape shape, Shape.run, State.jumpRel, pcNext_add_sext16, State.jumpTo]

theorem exec_jumpRelIf {i : Instr} {cc : Cond} {e : Byte} (shape : shapeOf i = .jumpRelIf cc e) (s : State) :
    exec i s = .next { s with pc := if s.cond cc then s.relTarget e else s.pc + 2 } := by
  rw [exec_of_shape shape, Shape.run, State.jumpRel, pcNext_add_sext16, whenCond_jumpTo]

theorem exec_jumpIf {i : Instr} {cc : Cond} {a : Word} (shape : shapeOf i = .jumpIf cc a) (s : State) :
    exec i s = .next { s with pc := if s.cond cc then a else s.pc + 3 } := by
  rw [exec_of_shape shape, Shape.run, whenCond_jumpTo]

/-- Settles O40: each form is a jump to its target or a conditional one; the operand's word is the join of its two bytes. -/
theorem jumpsSetPc : Obligations.JumpsSetPc := by
  intro w1 w2 s a16
  have word : join w2 w1 = a16 := join_ofNat w2 w1
  rw [← word]
  refine ⟨⟨rfl, ?_⟩, ⟨rfl, ?_⟩, ⟨rfl, ?_⟩, ⟨rfl, ?_⟩, ⟨rfl, ?_⟩, ⟨rfl, ?_⟩, ⟨rfl, ?_⟩, ⟨rfl, ?_⟩, ⟨rfl, ?_⟩, ⟨rfl, ?_⟩, ⟨rfl, ?_⟩⟩
  · exact exec_jumpRel rfl s
  · exact exec_jumpRelIf (cc := condNZ) rfl s
  · exact exec_jumpRelIf (cc := condZ) rfl s
  · exact exec_jumpRelIf (cc := condNC) rfl s
  · exact exec_jumpRelIf (cc := condC) rfl s
  · exact exec_of_shape rfl s
  · exact exec_jumpIf (cc := condNZ) rfl s
  · exact exec_jumpIf (cc := condZ) rfl s
  · exact exec_jumpIf (cc := condNC) rfl s
  · exact exec_jumpIf (cc := condC) rfl s
  · exact exec_of_shape rfl s

/-! ### Calls (46_control.md R161, R162, R166) -/

theorem callTo_eq (s : State) (n a : Word) : s.callTo n a = { s.pushed (s.pc + n) with pc := a } := by
  rw [State.callTo, push16_pushed]; rfl

theorem exec_call {i : Instr} {n a : Word} (shape : shapeOf i = .call n a) (s : State) :
    exec i s = .next { s.pushed (s.pc + n) with pc := a } := by
  rw [exec_of_shape shape, Shape.run, callTo_eq]

theorem exec_callIf {i : Instr} {cc : Cond} {a : Word} (shape : shapeOf i = .callIf cc a) (s : State) :
    exec i s = .next (if s.cond cc then { s.pushed (s.pc + 3) with pc := a } else { s with pc := s.pc + 3 }) := by
  rw [exec_of_shape shape, Shape.run, callTo_eq]; rfl

/-- The column 0b11yyy111 calls address 8y (30_encoding.md R77). -/
theorem shapeOf_rstColumn (y : Oct) (w1 w2 : Byte) :
    shapeOf (decodeWindow (opByte .q3 y .o7) w1 w2) = .call 1 (BitVec.ofNat 16 (8 * y.value)) := by
  cases y <;> rfl

/-- Settles O42: each form is a call to its target or a conditional one, and RST a call of one byte. -/
theorem callsPushTheReturnAddress : Obligations.CallsPushTheReturnAddress := by
  intro w1 w2 s a16
  have word : join w2 w1 = a16 := join_ofNat w2 w1
  rw [← word]
  refine ⟨⟨rfl, ?_⟩, ⟨rfl, ?_⟩, ⟨rfl, ?_⟩, ⟨rfl, ?_⟩, ⟨rfl, ?_⟩, fun y => ?_⟩
  · exact exec_call rfl s
  · exact exec_callIf (cc := condNZ) rfl s
  · exact exec_callIf (cc := condZ) rfl s
  · exact exec_callIf (cc := condNC) rfl s
  · exact exec_callIf (cc := condC) rfl s
  · exact exec_call (shapeOf_rstColumn y w1 w2) s

/-! ### Returns (46_control.md R163 to R165) -/

theorem returnPop_eq (s : State) : s.returnPop = { s.popped with pc := s.top } := by
  rw [State.returnPop, pop16_popped]; rfl

theorem returnIrq_eq (s : State) : s.returnIrq = { s.popped with pc := s.top, ime := true } := by
  rw [State.returnIrq, pop16_popped]; rfl

theorem exec_ret {i : Instr} (shape : shapeOf i = .ret) (s : State) : exec i s = .next { s.popped with pc := s.top } := by
  rw [exec_of_shape shape, Shape.run, returnPop_eq]

theorem exec_retIf {i : Instr} {cc : Cond} (shape : shapeOf i = .retIf cc) (s : State) :
    exec i s = .next (if s.cond cc then { s.popped with pc := s.top } else { s with pc := s.pc + 1 }) := by
  rw [exec_of_shape shape, Shape.run, returnPop_eq]; rfl

/-- Settles O43: each form is a return or a conditional one, and RETI one that also sets IME. -/
theorem returnsPopPc : Obligations.ReturnsPopPc := by
  intro w1 w2 s
  refine ⟨⟨rfl, ?_⟩, ⟨rfl, ?_⟩, ⟨rfl, ?_⟩, ⟨rfl, ?_⟩, ⟨rfl, ?_⟩, ⟨rfl, ?_⟩⟩
  · exact exec_ret rfl s
  · exact exec_retIf (cc := condNZ) rfl s
  · exact exec_retIf (cc := condZ) rfl s
  · exact exec_retIf (cc := condNC) rfl s
  · exact exec_retIf (cc := condC) rfl s
  · exact (exec_of_shape rfl s).trans (congrArg _ (returnIrq_eq s))

/-! ### PUSH and POP (46_control.md R167 to R169) -/

theorem exec_push {i : Instr} {p : Reg16} (shape : shapeOf i = .push p) (s : State) :
    exec i s = .next { s.pushed (s.get16 p) with pc := s.pc + 1 } := by
  rw [exec_of_shape shape, Shape.run, State.pushPair, push16_pushed]; rfl

theorem exec_pop {i : Instr} {p : Reg16} (shape : shapeOf i = .pop p) (s : State) :
    exec i s = .next ((s.popped.set16 p s.top).advance 1) := by
  rw [exec_of_shape shape, Shape.run, State.popPair, pop16_popped]

/-- Settles O44: each form pushes or pops its pair; the bytes popped are those of the word on top, which `set16` writes to the pair. -/
theorem pushAndPop : Obligations.PushAndPop := by
  intro w1 w2 s lo hi
  have low : loByte s.top = lo := loByte_join hi lo
  have high : hiByte s.top = hi := hiByte_join hi lo
  rw [← low, ← high]
  refine ⟨⟨rfl, ?_⟩, ⟨rfl, ?_⟩, ⟨rfl, ?_⟩, ⟨rfl, ?_⟩, ⟨rfl, ?_⟩, ⟨rfl, ?_⟩, ⟨rfl, ?_⟩, ⟨rfl, ?_⟩⟩
  · exact exec_push (p := .BC) rfl s
  · exact exec_push (p := .DE) rfl s
  · exact exec_push (p := .HL) rfl s
  · exact exec_push (p := .AF) rfl s
  · exact exec_pop (p := .BC) rfl s
  · exact exec_pop (p := .DE) rfl s
  · exact exec_pop (p := .HL) rfl s
  · exact exec_pop (p := .AF) rfl s

/-! ### A push in RAM, then a pop (20_memory.md R47, 46_control.md R154, R155) -/

section

variable {s : State} (canonical : Memory.wf s.mem) (ramHigh : s.kindAt (s.sp - 1) = .ram) (ramLow : s.kindAt (s.sp - 2) = .ram)

include canonical ramHigh ramLow

theorem read_pushed (v b : Word) : (s.pushed v).read b =
    if b = s.sp - 2 then loByte v else if b = s.sp - 1 then hiByte v else s.read b := by
  have lowWritten := read_write_ram (loByte v) b (write_wf s (s.sp - 1) (hiByte v) canonical) ((write_kindAt ..).trans ramLow)
  rwa [read_write_ram (hiByte v) b canonical ramHigh] at lowWritten

/-- The word on top of the stack is the one just pushed, wherever SP points. -/
theorem top_pushed (v : Word) : (s.pushed v).top = v := by
  have stillRam : (s.pushed v).kindAt (s.sp - 2) = .ram := ((write_kindAt ..).trans (write_kindAt ..)).trans ramLow
  have next : s.sp - 2 + 1 = s.sp - 1 := by bv_omega
  have distinct : s.sp - 1 ≠ s.sp - 2 := by bv_omega
  have low : (s.pushed v).read (s.sp - 2) = loByte v := by
    rw [read_pushed canonical ramHigh ramLow, if_pos rfl]
  have high : (s.pushed v).topHigh = hiByte v := by
    change ((s.pushed v).afterRead (s.sp - 2)).read (s.sp - 2 + 1) = hiByte v
    rw [afterRead_ram stillRam, next, read_pushed canonical ramHigh ramLow, if_neg distinct, if_pos rfl]
  calc join (s.pushed v).topHigh ((s.pushed v).read (s.sp - 2))
    _ = join (hiByte v) (loByte v) := by rw [high, low]
    _ = v := join_hiByte_loByte v

end

/-- A byte whose low nibble is zero is its own mask with 0xF0 (10_state.md R21). -/
theorem and_high_of_low_zero {v : Byte} (low : v &&& 0x0F#8 = 0#8) : v &&& 0xF0#8 = v := by
  calc v &&& 0xF0#8
    _ = v &&& 0xF0#8 ||| v &&& 0x0F#8 := by rw [low, BitVec.or_zero]
    _ = v &&& (0xF0#8 ||| 0x0F#8) := BitVec.and_or_distrib_left.symm
    _ = v := BitVec.and_allOnes

/-- Settles O45: POP AF finds the word that PUSH AF left, and its mask takes nothing from F. -/
theorem pushAfThenPopAfIsIdempotent : Obligations.PushAfThenPopAfIsIdempotent := by
  intro s ⟨canonical, lowZero⟩ ramHigh ramLow
  have word : (s.pushed (join s.a s.f)).top = join s.a s.f := top_pushed canonical ramHigh ramLow _
  refine ⟨_, _, exec_push (p := .AF) rfl s, exec_pop (p := .AF) rfl _, ?_, ?_, ?_, ?_⟩
  · calc hiByte (s.pushed (join s.a s.f)).top
      _ = s.a := by rw [word, hiByte_join]
  · calc loByte (s.pushed (join s.a s.f)).top &&& 0xF0#8
      _ = s.f := by rw [word, loByte_join, and_high_of_low_zero lowZero]
  · exact BitVec.sub_add_cancel s.sp 2
  · exact BitVec.add_assoc s.pc 1 1

/-- Settles O46: RET finds the return address that CALL left, and raises SP by as much as CALL lowered it. -/
theorem callThenRetReturns : Obligations.CallThenRetReturns := by
  intro s a16 canonical ramHigh ramLow
  refine ⟨_, _, exec_call rfl s, exec_ret rfl _, ?_, ?_⟩
  · exact top_pushed canonical ramHigh ramLow (s.pc + 3)
  · exact BitVec.sub_add_cancel s.sp 2

end Sys2Proof.Proofs

/-! PROOFS. Exceptions and interrupts (60_exceptions.md): the ways of a step that answers, what it records, and which interrupt it
accepts. -/

namespace Sys2Proof.Proofs

open Sys2Proof.Machine Sys2Proof.Laws

/-! ### The ways of a step, each under its own premises (60_exceptions.md R194) -/

/-- The state that the instruction at PC leaves, before the end of the step. -/
def ranInstr (s : State) : State := (shapeOf s.wake.promoteEi.fetch.1).run s.wake.promoteEi.fetch.2

theorem step_of_noStep {s : State} {r : Result} (held : s.noStep = some r) : step s = r := by rw [step, held]

/-- A halted core is held while nothing is pending (R195). -/
theorem step_of_held {s : State} (fault : s.fault = none) (halted : s.mode = .halted) (quiet : s.irqPending = none) :
    step s = .next s.nextInput := by
  refine step_of_noStep ?_
  simp only [State.noStep, fault, halted, quiet, Option.isNone_none, if_true]

theorem wake_accepts_eq_some {s : State} {n : IrqLine} : s.wake.accepts = some n ↔ s.ime = true ∧ s.irqPending = some n :=
  Option.ite_none_right_eq_some

theorem wake_accepts_eq_none {s : State} : s.wake.accepts = none ↔ s.ime = false ∨ s.irqPending = none := by
  rw [← Bool.not_eq_true, ← imp_iff_not_or]
  exact ite_eq_right_iff

theorem step_of_accepted {s : State} {n : IrqLine} (able : s.canStep) (ime : s.ime = true) (pending : s.irqPending = some n) :
    step s = .next (s.wake.dispatchIrq n).nextInput := by
  rw [step, noStep_none.2 able, wake_accepts_eq_some.2 ⟨ime, pending⟩]

theorem step_of_declined {s : State} (able : s.canStep) (declined : s.ime = false ∨ s.irqPending = none) :
    step s = runInstr s s.wake := by
  rw [step, noStep_none.2 able, wake_accepts_eq_none.2 declined]

theorem runInstr_wake (s : State) : runInstr s s.wake = .next (s.commit (ranInstr s)) := by
  rw [runInstr, exec_eq]; rfl

/-- A core that is neither faulted nor stopped can step or is held. -/
theorem canStep_or_held {s : State} (fault : s.fault = none) (going : s.mode ≠ .stopped) :
    s.canStep ∨ (s.mode = .halted ∧ s.irqPending = none) := by
  cases mode : s.mode with
  | running => exact .inl ⟨fault, .inl mode⟩
  | stopped => exact absurd mode going
  | halted =>
    by_cases quiet : s.irqPending = none
    · exact .inr ⟨rfl, quiet⟩
    · exact .inl ⟨fault, .inr ⟨mode, quiet⟩⟩

/-- A step that answers a next state was held, took an interrupt or ran an instruction. -/
theorem step_next_cases {s t : State} (h : step s = .next t) :
    (s.fault = none ∧ t = s.nextInput) ∨
    (s.canStep ∧ ∃ n, s.ime = true ∧ s.irqPending = some n ∧ t = (s.wake.dispatchIrq n).nextInput) ∨
    (s.canStep ∧ t = s.commit (ranInstr s)) := by
  obtain ⟨r, held, hr⟩ | ⟨free, n, accepted, hn⟩ | ⟨free, -, hi⟩ := step_cases s
  · obtain ⟨fault, -, -, passed⟩ := noStep_next (held.trans (congrArg some (hr.symm.trans h)))
    exact .inl ⟨fault, passed⟩
  · obtain ⟨ime, pending⟩ := wake_accepts_eq_some.1 accepted
    exact .inr (.inl ⟨noStep_none.1 free, n, ime, pending, Host.Outcome.next.inj (h.symm.trans hn)⟩)
  · exact .inr (.inr ⟨noStep_none.1 free, Host.Outcome.next.inj (h.symm.trans hi)⟩)

/-! ### What a step records (60_exceptions.md R183 to R186) -/

/-- The opcode at PC as the core reads it at the fetch: the wake-up and EI's promotion leave it. -/
theorem ready_opcode (s : State) :
    ∃ w1 w2, s.wake.promoteEi.fetch.1 = decodeWindow (s.read s.pc) w1 w2 := by
  obtain ⟨w1, w2, fetched⟩ := fetch_opcode s.wake.promoteEi
  rw [promoteEi_pc, read_congr (promoteEi_bus s.wake) (promoteEi_mem s.wake)] at fetched
  exact ⟨w1, w2, fetched⟩

/-- A fault record of kind `k` fits the opcode `b` that it names. -/
def FitsOpcode (k : FaultKind) (b : Byte) : Prop :=
  match k with
  | .illegalOpcode => b ∈ unusedBytes
  | .haltBug => b = 0x76#8

/-- An instruction records nothing, or PC with the opcode there, of a kind that fits it. -/
theorem ranInstr_fault {s : State} (fault : s.fault = none) :
    (ranInstr s).fault = none ∨ ∃ k, (ranInstr s).fault = some ⟨k, s.pc, s.read s.pc⟩ ∧ FitsOpcode k (s.read s.pc) := by
  obtain ⟨w1, w2, fetched⟩ := ready_opcode s
  have pc : s.wake.promoteEi.fetch.2.pc = s.pc := by simp
  unfold ranInstr
  obtain kept | ⟨v, illegal, recorded⟩ | ⟨halt, -, -, recorded⟩ :=
    Shape.run_fault (shapeOf s.wake.promoteEi.fetch.1) s.wake.promoteEi.fetch.2
  · exact .inl (kept.trans (by simpa using fault))
  · have shape : shapeOf (decodeWindow (s.read s.pc) w1 w2) = .illegal v := fetched ▸ illegal
    have unused : s.read s.pc ∈ unusedBytes := mem_controlBytes shape rfl
    obtain rfl : s.read s.pc = v := Shape.illegal.inj ((shapeOf_unused unused w1 w2).symm.trans shape)
    exact .inr ⟨.illegalOpcode, by rw [recorded, State.recordFault, pc], unused⟩
  · have opcode : s.read s.pc = 0x76#8 := opcode_of_shape (fetched ▸ halt) rfl rfl
    exact .inr ⟨.haltBug, by rw [recorded, State.recordFault, pc, opcode]; rfl, opcode⟩

/-- A record of PC and the opcode there, of a kind that fits, says nothing false. -/
theorem faultInv_of_fits {s : State} {k : FaultKind} (fits : FitsOpcode k (s.read s.pc)) :
    State.FaultInv { s with fault := some ⟨k, s.pc, s.read s.pc⟩ } := by
  refine ⟨rfl, rfl, ?_⟩
  cases k with
  | illegalOpcode => exact (decodeWindow_unimplemented ..).trans (decide_eq_true fits)
  | haltBug => exact fits

/-- Settles O4: a held step and one that takes an interrupt record nothing, and an instruction what `ranInstr_fault` says, which the
end of the step writes to the state before it. -/
theorem stepRecordsTrueFaults : Obligations.StepRecordsTrueFaults := by
  intro s t h
  obtain ⟨fault, rfl⟩ | ⟨⟨fault, -⟩, n, -, -, rfl⟩ | ⟨⟨fault, -⟩, rfl⟩ := step_next_cases h
  · exact faultInv_of_none fault
  · exact faultInv_of_none ((dispatchIrq_fault s.wake n).trans fault)
  · obtain unrecorded | ⟨k, recorded, fits⟩ := ranInstr_fault fault
    · rw [commit_of_none unrecorded]
      exact faultInv_of_none unrecorded
    · rw [commit_of_some recorded]
      exact faultInv_of_fits fits

/-- The end of a step that leaves a fault recorded undoes everything else (R186; log 9). -/
theorem commit_precise {s t : State} (recorded : (s.commit t).fault ≠ none) :
    s.commit t = { s with fault := (s.commit t).fault } := by
  cases h : t.fault with
  | none => exact absurd ((congrArg State.fault (commit_of_none h)).trans h) recorded
  | some r => rw [commit_of_some h]

/-- Settles O5: only the end of an instruction's step leaves a fault recorded. -/
theorem faultsArePrecise : Obligations.FaultsArePrecise := by
  intro s t h recorded
  obtain ⟨fault, rfl⟩ | ⟨⟨fault, -⟩, n, -, -, rfl⟩ | ⟨-, rfl⟩ := step_next_cases h
  · exact absurd fault recorded
  · exact absurd ((dispatchIrq_fault s.wake n).trans fault) recorded
  · exact commit_precise recorded

theorem step_of_illegalOpcode {s : State} {a : Word} {b : Byte} (recorded : s.fault = some ⟨.illegalOpcode, a, b⟩) :
    step s = .fault (.illegalOpcode a b) := step_of_noStep (by rw [State.noStep, recorded])

theorem step_of_haltBug {s : State} {a : Word} {b : Byte} (recorded : s.fault = some ⟨.haltBug, a, b⟩) :
    step s = .refused (.haltBug a) := step_of_noStep (by rw [State.noStep, recorded])

/-- Settles O6: the record's kind alone decides the outcome. -/
theorem recordedFaultEndsTheRun : Obligations.RecordedFaultEndsTheRun := by
  rintro s ⟨kind, a, b⟩ recorded
  cases kind with
  | illegalOpcode =>
    have faults := step_of_illegalOpcode recorded
    exact ⟨fun _ => faults, fun other => (nomatch other), fun _ next => nomatch faults.symm.trans next⟩
  | haltBug =>
    have refuses := step_of_haltBug recorded
    exact ⟨fun other => (nomatch other), fun _ => refuses, fun _ next => nomatch refuses.symm.trans next⟩

/-- Settles O7: each instruction answers what its shape leaves, and a step of a core that is neither faulted nor stopped is one of the
three ways. -/
theorem everyInstructionAnswersNext : Obligations.EveryInstructionAnswersNext := by
  refine ⟨fun i s => ⟨_, exec_eq i s⟩, fun s fault going => ?_⟩
  obtain able | ⟨halted, quiet⟩ := canStep_or_held fault going
  · cases accepted : s.wake.accepts with
    | some n =>
      obtain ⟨ime, pending⟩ := wake_accepts_eq_some.1 accepted
      exact ⟨_, step_of_accepted able ime pending⟩
    | none => exact ⟨_, (step_of_declined able (wake_accepts_eq_none.1 accepted)).trans (runInstr_wake s)⟩
  · exact ⟨_, step_of_held fault halted quiet⟩

/-! ### Interrupts (60_exceptions.md R190 to R195) -/

/-- Taking interrupt n, cell by cell. -/
theorem wake_dispatchIrq_eq (s : State) (n : IrqLine) : s.wake.dispatchIrq n =
    { s.pushed s.pc with ime := false, eiPending := false, acks := s.acks ++ [n], pc := n.entry, mode := .running } := by
  rw [State.dispatchIrq, push16_pushed]; rfl

theorem commit_acks {s t : State} (kept : t.acks = s.acks) : (s.commit t).acks = s.acks := by
  cases h : t.fault with
  | none => rw [commit_of_none h]; exact kept
  | some r => rw [commit_of_some h]

theorem ranInstr_acks (s : State) : (ranInstr s).acks = s.acks := by
  rw [ranInstr, Shape.run_acks, fetch_acks, promoteEi_acks, wake_acks]

/-- A step acknowledges the interrupt it takes and no other. -/
theorem step_acks {s t : State} (h : step s = .next t) :
    t.acks = s.acks ∨ ∃ n, s.canStep ∧ s.ime = true ∧ s.irqPending = some n ∧ t.acks = s.acks ++ [n] := by
  obtain ⟨-, rfl⟩ | ⟨able, n, ime, pending, rfl⟩ | ⟨-, rfl⟩ := step_next_cases h
  · exact .inl rfl
  · exact .inr ⟨n, able, ime, pending, congrArg State.acks (wake_dispatchIrq_eq s n)⟩
  · exact .inl (commit_acks (ranInstr_acks s))

theorem canStep_of_pending {s : State} {n : IrqLine} (going : s.mode ≠ .stopped) (fault : s.fault = none)
    (pending : s.irqPending = some n) : s.canStep :=
  (canStep_or_held fault going).resolve_right fun held => nomatch pending.symm.trans held.2

theorem going_of_canStep {s : State} (able : s.canStep) : s.mode ≠ .stopped := by
  obtain ⟨-, running | ⟨halted, -⟩⟩ := able
  · simp [running]
  · simp [halted]

/-- Settles O15: the acknowledgements grow by n exactly in the step that takes n. -/
theorem interruptIsAcceptedExactlyWhenAllowed : Obligations.InterruptIsAcceptedExactlyWhenAllowed := by
  refine fun s n => ⟨fun ⟨t, h, acked⟩ => ?_, fun ⟨ime, going, fault, pending⟩ => ?_⟩
  · obtain kept | ⟨m, able, ime, pending, taken⟩ := step_acks h
    · exact absurd (acked.symm.trans kept) (by simp)
    · obtain rfl : m = n := by simpa using taken.symm.trans acked
      exact ⟨ime, going_of_canStep able, able.1, pending⟩
  · exact ⟨_, step_of_accepted (canStep_of_pending going fault pending) ime pending,
      congrArg State.acks (wake_dispatchIrq_eq s n)⟩

/-- Settles O16: the dispatch cell by cell, the entry address of each line computed. -/
theorem dispatchSavesPcAndJumps : Obligations.DispatchSavesPcAndJumps := by
  intro s n ime going fault pending
  rw [step_of_accepted (canStep_of_pending going fault pending) ime pending, wake_dispatchIrq_eq]
  cases n <;> rfl

/-- Settles O18: held, it only uses up its input; woken, it runs the same instruction as the running core, and unless a fault is
recorded the end of the step does not look at the state before it. -/
theorem haltedCoreHoldsUntilAnInterrupt : Obligations.HaltedCoreHoldsUntilAnInterrupt := by
  refine fun s fault halted => ⟨step_of_held fault halted, fun pending masked t h unrecorded => ?_⟩
  have woken : step s = .next (s.commit (ranInstr s)) :=
    (step_of_declined ⟨fault, .inr ⟨halted, pending⟩⟩ (.inl masked)).trans (runInstr_wake s)
  have running : step s.wake = .next (s.wake.commit (ranInstr s)) :=
    (step_of_declined (s := s.wake) ⟨fault, .inl rfl⟩ (.inl masked)).trans (runInstr_wake s.wake)
  obtain rfl := Host.Outcome.next.inj (running.symm.trans h)
  rw [woken]
  cases recorded : (ranInstr s).fault with
  | none => rw [commit_of_none recorded, commit_of_none recorded]
  | some r => exact nomatch (congrArg State.fault (commit_of_some recorded)).symm.trans unrecorded

/-! ### The instruction after EI (47_misc.md R173, R174) -/

theorem promoteEi_of_pending {s : State} (pending : s.eiPending = true) :
    s.promoteEi = { s with ime := true, eiPending := false } := if_pos pending

/-- Settles O17: with IME = 0 the step takes no interrupt and runs the instruction with EI promoted, which DI undoes. -/
theorem noInterruptBetweenEiAndTheNextInstruction : Obligations.NoInterruptBetweenEiAndTheNextInstruction := by
  intro s fault running masked pending u
  have ran : step s = settle s (exec u.fetch.1 u.fetch.2) := by
    rw [step_of_declined ⟨fault, .inl running⟩ (.inl masked), wake_of_running running, runInstr, promoteEi_of_pending pending]
  have unacknowledged {t : State} (h : step s = .next t) : t.acks = s.acks :=
    (step_acks h).resolve_right fun ⟨n, _, ime, _⟩ => nomatch masked.symm.trans ime
  refine ⟨ran, fun t => unacknowledged, fun opcode => ?_⟩
  obtain ⟨w1, w2, fetched⟩ := fetch_opcode u
  have di : u.fetch.1 = .di := fetched.trans (congrArg (decodeWindow · w1 w2) opcode)
  have unfaulted : (Shape.di.run u.fetch.2).fault = none := (fetch_fault u).trans fault
  have answer : step s = .next (Shape.di.run u.fetch.2).nextInput := by
    rw [ran, di, exec_of_shape (k := .di) rfl, settle, commit_of_none unfaulted]
  exact ⟨_, answer, rfl, rfl, congrArg (· + 1) (fetch_pc u), unacknowledged answer⟩

/-! ### The bytes read for the instruction (20_memory.md R62, 30_encoding.md R76) -/

/-- The fetch reads as many bytes as the first one says, and the decoder answers its instruction for them. -/
theorem fetch_of_readBytes (s : State) : decode (s.readBytes s.pc (fetchLength (s.read s.pc))).1 = .ok (s.fetch.1, []) ∧
    (s.readBytes s.pc (fetchLength (s.read s.pc))).2 = s.fetch.2 := by
  have third : s.pc + 1#16 + 1#16 = s.pc + 2#16 := BitVec.add_assoc s.pc 1 1
  obtain length | length | length := fetchLength_cases (s.read s.pc) <;>
    simp [State.fetch, State.readBytes, decode, length, third]

/-- Settles O14: the decoder's instruction for the bytes read is the fetched one, and the end of the step is the claim's. -/
theorem stepRunsTheDecodedInstruction : Obligations.StepRunsTheDecodedInstruction := by
  intro s t i able declined bytes decoded answered
  have opcode : s.wake.promoteEi.read s.wake.promoteEi.pc = s.read s.pc := by
    rw [promoteEi_pc, read_congr (promoteEi_bus s.wake) (promoteEi_mem s.wake)]; rfl
  have fetched := fetch_of_readBytes s.wake.promoteEi
  rw [opcode, promoteEi_pc] at fetched
  obtain ⟨instr, after⟩ := fetched
  obtain ⟨rfl, -⟩ := Prod.mk.inj (Except.ok.inj (instr.symm.trans decoded))
  have answer : step s = .next (s.commit t) := by
    rw [step_of_declined able declined, runInstr, ← after]
    exact congrArg (settle s) answered
  rw [answer]
  split
  next r recorded => rw [commit_of_some recorded]
  next unrecorded => rw [commit_of_none unrecorded]; rfl

end Sys2Proof.Proofs

/-! PROOFS. Miscellaneous and flag instructions (47_misc.md): HALT, STOP, the unused bytes, the row 0xCB, DAA as numbers
and on decimal digits, and R181's table of flags. -/

namespace Sys2Proof.Proofs

open Sys2Proof.Machine Sys2Proof.Laws

/-! ### Power state, interrupt enable and the unused bytes (47_misc.md R170 to R174, R180) -/

/-- Settles O19: HALT's two cases are those of its guard. -/
theorem haltSetsModeOrIsRefused : Obligations.HaltSetsModeOrIsRefused := by
  refine fun s w1 w2 => ⟨rfl, fun masked pending => ?_, fun allowed => ?_⟩
  · have refused : (!s.ime && s.irqPending.isSome) = true := by
      rw [masked, Option.isSome_iff_ne_none.2 pending]; rfl
    rw [exec_of_shape (k := .halt) rfl, Shape.run, if_pos refused]; rfl
  · have accepted : ¬(!s.ime && s.irqPending.isSome) = true := by
      obtain enabled | quiet := allowed
      · simp [enabled]
      · simp [quiet]
    rw [exec_of_shape (k := .halt) rfl, Shape.run, if_neg accepted]; rfl

/-- Settles O20: the instruction by its shape; the later steps by the mode, which `noStep` reads where no fault is recorded. -/
theorem stopEndsTheRun : Obligations.StopEndsTheRun := by
  refine ⟨fun s x w2 => ⟨rfl, exec_of_shape rfl s⟩, fun s fault stopped => step_of_noStep ?_⟩
  simp only [State.noStep, fault, stopped]

/-- Settles O21: each by its shape. -/
theorem nopDiAndEi : Obligations.NopDiAndEi := fun s _ _ =>
  ⟨⟨rfl, exec_of_shape rfl s⟩, ⟨rfl, exec_of_shape rfl s⟩, ⟨rfl, exec_of_shape rfl s⟩⟩

/-- Settles O22: each of the eleven records its own byte. -/
theorem unusedBytesRecordIllegalOpcode : Obligations.UnusedBytesRecordIllegalOpcode := fun _ unused w1 w2 s =>
  exec_of_shape (shapeOf_unused unused w1 w2) s

/-! ### The flag instructions (47_misc.md R176 to R178) -/

/-- The complement of a byte as a number. -/
theorem xor_ones_ofNat (v : Byte) : v ^^^ 0xFF#8 = BitVec.ofNat 8 (255 - v.toNat) := by
  apply BitVec.eq_of_toNat_eq
  rw [show 0xFF#8 = BitVec.allOnes 8 from rfl, BitVec.xor_allOnes, BitVec.toNat_not, BitVec.toNat_ofNat]
  omega

/-- Settles O49: each by its shape, CPL's result taken as a number. -/
theorem complementAndCarryFlagInstructions : Obligations.ComplementAndCarryFlagInstructions := by
  intro w1 w2 s
  rw [← xor_ones_ofNat]
  exact ⟨⟨rfl, exec_of_shape rfl s⟩, ⟨rfl, exec_of_shape rfl s⟩, ⟨rfl, exec_of_shape rfl s⟩⟩

/-! ### The row 0xCB (47_misc.md R179) -/

/-- The row's meaning and the shape of the CB instruction are the same operation of fields x and y on the operand of field z. -/
theorem prefixed_eq (s : State) (b : Byte) : s.prefixed b = (cbShape b).run s := by
  unfold State.prefixed cbShape
  generalize fieldX b = x, fieldY b = y
  cases x <;> cases y <;> rfl

/-- Settles O50: both meanings are the run of `cbShape`. -/
theorem prefixIsTheCbInstruction : Obligations.PrefixIsTheCbInstruction := by
  refine fun b w2 s => ⟨rfl, decodeCb_size b, ?_, _, exec_eq _ s⟩
  rw [exec_of_shape (k := .prefixed b) rfl, exec_of_shape (shapeOf_decodeCb b), Shape.run, prefixed_eq]

/-! ### Decimal adjustment (47_misc.md R175) -/

/-- The subtract case takes 0x60 and 0x06 from the byte as from its number. -/
theorem daaByte_res_subtract (a : Byte) (h c : Bool) :
    (daaByte a true h c).res = BitVec.ofInt 8 (daaNumber a.toNat true h c).1 := by
  cases c <;> cases h <;> simp [daaByte, daaNumber, ofInt_sub]

theorem daaByte_res_add (a : Byte) (h c : Bool) :
    (daaByte a false h c).res = BitVec.ofInt 8 (daaNumber a.toNat false h c).1 := by
  simp only [daaByte, daaNumber, Bool.false_eq_true, if_false, add_ite, Nat.add_zero, Int.add_zero]
  rw [← BitVec.ofInt_natCast, Nat.cast_ite, Nat.cast_add]
  rfl

/-- The whole outcome of the adjustment as numbers. -/
theorem daaByte_eq (a : Byte) (n h c : Bool) : daaByte a n h c =
    let r := daaNumber a.toNat n h c
    ⟨BitVec.ofInt 8 r.1, r.1 % 256 == 0, n, false, r.2⟩ := by
  dsimp only
  rw [← ofInt_beq_zero]
  cases n with
  | true => rw [← daaByte_res_subtract]; rfl
  | false => rw [← daaByte_res_add]; rfl

/-- Settles O47: DAA's shape writes what `daaByte_eq` says. -/
theorem decimalAdjust : Obligations.DecimalAdjust := by
  refine fun w1 w2 s => ⟨rfl, ?_⟩
  rw [exec_of_shape (k := .daa) rfl, Shape.run, State.adjustA, daaByte_eq]; rfl

/-! ### Decimal sums and differences (47_misc.md R175 after 42_alu8.md R124, R126)

The adjustment is computed on numbers whose hexadecimal digits are decimal ones. -/

/-- The number whose hexadecimal digits are the decimal digits of `x` (x < 100). -/
def digits (x : Nat) : Nat := 16 * (x / 10) + x % 10

theorem toNat_bcd {x : Nat} (hx : x < 100) : (bcd x).toNat = digits x := by
  rw [bcd, BitVec.toNat_ofNat, digits]
  omega

theorem lowNibble_bcd {x : Nat} (hx : x < 100) : lowNibble (bcd x) = x % 10 := by
  rw [← nibble_eq_lowNibble, nibble, toNat_bcd hx, digits]
  omega

theorem digits_lt_iff (x y : Nat) : digits x < digits y ↔ x < y := by
  rw [digits, digits]
  omega

/-- A number that is the digits of `x` modulo 256 wraps to the byte with these digits. -/
theorem ofInt_eq_bcd {k : Int} {x : Nat} (h : k % 256 = digits x % 256) : BitVec.ofInt 8 k = bcd x := by
  apply BitVec.eq_of_toNat_eq
  rw [BitVec.toNat_ofInt, bcd, BitVec.toNat_ofNat, ← digits]
  omega

/-- The add case adds 0x60 exactly when the decimal sum has three digits: the carry out of the byte stands for what is lost of the
sum. -/
theorem sum_adjusts_tens (x y : Nat) :
    (digits x + digits y > 0xFF ∨ (digits x + digits y) % 256 > 0x99) ↔ 100 ≤ x + y := by
  have unwrapped (sum : Nat) : (sum > 0xFF ∨ sum % 256 > 0x99) ↔ sum > 0x99 := by omega
  rw [unwrapped, digits, digits]
  omega

/-- The add case adds 0x06 exactly when the ones carry, whatever was added to the upper digit before. -/
theorem sum_adjusts_ones (x y : Nat) {r : Nat} (sameOnes : r % 16 = (digits x + digits y) % 16) :
    (x % 10 + y % 10 > 0x0F ∨ r % 16 > 0x09) ↔ 10 ≤ x % 10 + y % 10 := by
  rw [sameOnes, digits, digits]
  omega

/-- The sum of two decimal numbers after its adjustments. -/
def adjustedSum (x y : Nat) : Int :=
  (digits x + digits y : Int) % 256 + (if 100 ≤ x + y then 0x60 else 0) + (if 10 ≤ x % 10 + y % 10 then 0x06 else 0)

/-- The difference of two decimal numbers after its adjustments. -/
def adjustedDifference (x y : Nat) : Int :=
  ((digits x : Int) - digits y) % 256 - (if x < y then 0x60 else 0) - (if x % 10 < y % 10 then 0x06 else 0)

theorem adjustedSum_mod {x y : Nat} (hx : x < 100) (hy : y < 100) :
    adjustedSum x y % 256 = digits ((x + y) % 100) % 256 := by
  simp only [adjustedSum, digits]
  split <;> split <;> omega

theorem adjustedDifference_mod {x y : Nat} (hx : x < 100) (hy : y < 100) :
    adjustedDifference x y % 256 = digits ((x + 100 - y) % 100) % 256 := by
  simp only [adjustedDifference, digits]
  split <;> split <;> omega

theorem daaNumber_sum (x y : Nat) :
    daaNumber ((digits x + digits y) % 256) false (decide (x % 10 + y % 10 > 0x0F)) (decide (digits x + digits y > 0xFF)) =
      (adjustedSum x y, decide (100 ≤ x + y)) := by
  have sameOnes : ((digits x + digits y) % 256 + if 100 ≤ x + y then 0x60 else 0) % 16 = (digits x + digits y) % 16 := by
    split <;> omega
  simp only [daaNumber, Bool.false_eq_true, if_false, ← Bool.decide_or, decide_eq_true_eq, sum_adjusts_tens,
    sum_adjusts_ones x y sameOnes, adjustedSum]
  push_cast
  rfl

/-- The numbers that DAA sees in a state. -/
def daaOf (s : State) : Int × Bool := daaNumber s.a.toNat s.flagN s.flagH s.flagC

section

variable {s : State} {x y : Nat} (hx : x < 100) (hy : y < 100) (held : s.a = bcd x) (n : Word)

include hx hy held

theorem daaOf_added : daaOf (s.added (bcd y) 0 n) = (adjustedSum x y, decide (100 ≤ x + y)) := by
  simp only [daaOf, State.added, State.flagN, State.flagH, State.flagC, packFlags_bit6, packFlags_bit5, packFlags_bit4, held,
    toNat_bcd hx, toNat_bcd hy, lowNibble_bcd hx, lowNibble_bcd hy, ofNat_mod_256, BitVec.toNat_ofNat, Nat.add_zero]
  exact daaNumber_sum x y

theorem toNat_difference_bcd : ((s.difference (bcd y) 0).toNat : Int) = ((digits x : Int) - digits y) % 256 := by
  rw [State.difference, held, toNat_bcd hx, toNat_bcd hy, BitVec.toNat_ofInt]
  omega

theorem daaOf_subtracted : daaOf (s.subtracted (bcd y) 0 (s.difference (bcd y) 0) n) =
    (adjustedDifference x y, decide (x < y)) := by
  simp only [daaOf, State.subtracted, State.flagN, State.flagH, State.flagC, packFlags_bit6, packFlags_bit5, packFlags_bit4,
    daaNumber, if_true, toNat_difference_bcd hx hy held, held, toNat_bcd hx, toNat_bcd hy, lowNibble_bcd hx, lowNibble_bcd hy,
    Nat.add_zero, digits_lt_iff, decide_eq_true_eq]
  rfl

end

/-- DAA leaves the decimal digits of `z` where the adjusted number is these digits modulo 256. -/
theorem adjustA_bcd {s : State} {k : Int} {carry : Bool} {z : Nat} (sees : daaOf s = (k, carry))
    (digitsOfZ : k % 256 = digits z % 256) : (s.adjustA 1).a = bcd z ∧ (s.adjustA 1).flagC = carry := by
  have result : (s.adjustA 1).a = BitVec.ofInt 8 (daaOf s).1 := congrArg ByteOut.res (daaByte_eq ..)
  have carried : (s.adjustA 1).flagC = (daaOf s).2 := (setFlags_flagC ..).trans (congrArg ByteOut.c (daaByte_eq ..))
  rw [result, carried, sees]
  exact ⟨ofInt_eq_bcd digitsOfZ, rfl⟩

/-- Settles O48: ADD and SUB as numbers, then DAA on the state they leave. -/
theorem daaMakesDecimalSumsAndDifferences : Obligations.DaaMakesDecimalSumsAndDifferences := by
  intro s x y hx hy held
  refine ⟨⟨_, _, exec_of_shape (k := .alu 2 .ADD (.imm (bcd y))) rfl s, exec_of_shape (k := .daa) rfl _, ?_⟩,
    ⟨_, _, exec_of_shape (k := .alu 2 .SUB (.imm (bcd y))) rfl s, exec_of_shape (k := .daa) rfl _, ?_⟩⟩
  · rw [Shape.run, Shape.run, alu_ADD]
    exact adjustA_bcd (daaOf_added hx hy held 2) (adjustedSum_mod hx hy)
  · rw [Shape.run, Shape.run, alu_SUB]
    exact adjustA_bcd (daaOf_subtracted hx hy held 2) (adjustedDifference_mod hx hy)

/-! ### R181's table of flags

Each shape is held to a row of the table once; the table is then walked by the fields of the opcode. -/

/-- Flags z, n, h and c after the state `s` are as the row says. -/
def RowAllows (row : FlagRow) (s : State) (z n h c : Bool) : Prop :=
  row.z.allows s.flagZ z ∧ row.n.allows s.flagN n ∧ row.h.allows s.flagH h ∧ row.c.allows s.flagC c

/-- F goes from `s` to `t` as the row says, and its low nibble is kept (00_scope.md R16; log 15). -/
def FollowsFlagRow (row : FlagRow) (s t : State) : Prop := row.allows s t ∧ t.f &&& 0x0F#8 = s.f &&& 0x0F#8

/-- A state whose F is four flags written over that of `s`. -/
theorem followsFlagRow_of_packFlags {row : FlagRow} {s t : State} {z n h c : Bool} (written : t.f = packFlags z n h c s.f)
    (allowed : RowAllows row s z n h c) : FollowsFlagRow row s t := by
  simp only [FollowsFlagRow, FlagRow.allows, State.flagZ, State.flagN, State.flagH, State.flagC, written, packFlags_bit7,
    packFlags_bit6, packFlags_bit5, packFlags_bit4, packFlags_low]
  exact ⟨allowed, trivial⟩

theorem keepsF_flags {k : Shape} (keeps : k.keepsF = true) (s : State) :
    FollowsFlagRow ⟨.kept, .kept, .kept, .kept⟩ s (k.run s) := by
  have own : (k.run s).f = packFlags s.flagZ s.flagN s.flagH s.flagC s.f :=
    (Shape.run_f k s keeps).trans (packFlags_self s.f).symm
  exact followsFlagRow_of_packFlags own ⟨rfl, rfl, rfl, rfl⟩

section

variable (s : State) (n : Word)

theorem inc_flags (y : Oct) :
    FollowsFlagRow ⟨.computed, .forced false, .computed, .kept⟩ s (s.modify8 n (operandOf y) incByte) :=
  followsFlagRow_of_packFlags (congrArg State.f (modify8_operandOf ..)) ⟨trivial, rfl, trivial, rfl⟩

theorem dec_flags (y : Oct) :
    FollowsFlagRow ⟨.computed, .forced true, .computed, .kept⟩ s (s.modify8 n (operandOf y) decByte) :=
  followsFlagRow_of_packFlags (congrArg State.f (modify8_operandOf ..)) ⟨trivial, rfl, trivial, rfl⟩

theorem addHL_flags (p : Reg16) : FollowsFlagRow ⟨.kept, .forced false, .computed, .computed⟩ s (s.addHL n p) :=
  followsFlagRow_of_packFlags rfl ⟨rfl, rfl, trivial, trivial⟩

theorem rotA_flags (op : RotOp) :
    FollowsFlagRow ⟨.forced false, .forced false, .forced false, .computed⟩ s (s.rotA n op) :=
  followsFlagRow_of_packFlags rfl ⟨rfl, rfl, rfl, trivial⟩

theorem daaByte_h (a : Byte) (n h c : Bool) : (daaByte a n h c).h = false := congrArg ByteOut.h (daaByte_eq a n h c)

theorem daa_flags : FollowsFlagRow ⟨.computed, .kept, .forced false, .computed⟩ s (s.adjustA n) :=
  followsFlagRow_of_packFlags rfl ⟨trivial, rfl, daaByte_h .., trivial⟩

theorem addSp_flags {p : Reg16} (notAF : (!(p == .AF)) = true) (e : Byte) :
    FollowsFlagRow ⟨.forced false, .forced false, .computed, .computed⟩ s (s.addSp n p e) := by
  have kept : (s.set16 p (s.sp + sext16 e)).f = s.f := f_set16 s p _ notAF
  exact followsFlagRow_of_packFlags (congrArg (packFlags _ _ _ _) kept) ⟨rfl, rfl, trivial, trivial⟩

theorem testBit_flags (k z : Oct) :
    FollowsFlagRow ⟨.computed, .forced false, .forced true, .kept⟩ s (s.testBit n k (operandOf z)) :=
  followsFlagRow_of_packFlags (congrArg State.f (testBit_operandOf ..)) ⟨trivial, rfl, rfl, rfl⟩

/-- The rows of the eight operations of field y. -/
theorem alu_imm_flags (y : Oct) (b : Byte) : FollowsFlagRow (aluFlagRow y) s (s.alu n (aluOpOf y) (.imm b)) := by
  refine followsFlagRow_of_packFlags (congrArg State.f (alu_imm s b n (aluOpOf y))) ?_
  cases y
  case o0 | o1 | o2 | o3 | o7 => exact ⟨trivial, rfl, trivial, trivial⟩
  case o4 | o5 | o6 => exact ⟨trivial, rfl, rfl, rfl⟩

/-- Reading the operand does not touch F. -/
theorem alu_operandOf_flags (y z : Oct) : FollowsFlagRow (aluFlagRow y) s (s.alu n (aluOpOf y) (.loc (operandOf z))) := by
  have read := alu_imm_flags (s.touch z) n y (s.r8 z)
  rw [← alu_operandOf] at read
  simpa only [FollowsFlagRow, FlagRow.allows, State.flagZ, State.flagN, State.flagH, State.flagC, touch_f] using read

/-- The rows of the rotates, shifts and SWAP. -/
theorem rot_flags (y z : Oct) :
    FollowsFlagRow (cbFlagRow .q0 y) s (s.modify8 n (operandOf z) (rotByte (rotOpOf y))) := by
  refine followsFlagRow_of_packFlags (congrArg State.f (modify8_operandOf ..)) ?_
  cases y
  case o6 => exact ⟨trivial, rfl, rfl, rfl⟩
  all_goals exact ⟨trivial, rfl, rfl, trivial⟩

/-- The rows of the 0xCB space. -/
theorem cbShape_flags (b : Byte) : FollowsFlagRow (cbFlagRow (fieldX b) (fieldY b)) s ((cbShape b).run s) := by
  unfold cbShape
  generalize fieldX b = x, fieldY b = y, fieldZ b = z
  cases x
  case q0 => exact rot_flags s 2 y z
  case q1 => exact testBit_flags s 2 y z
  case q2 | q3 => exact keepsF_flags rfl s

end

/-! #### The table by the fields of the opcode -/

/-- The instruction with these bytes follows the table. -/
def FollowsTable (w0 w1 w2 : Byte) (s : State) : Prop :=
  FollowsFlagRow (flagRow w0 w1) s ((shapeOf (decodeWindow w0 w1 w2)).run s)

section

variable (w1 w2 : Byte) (s : State)

/-- Opcodes 0x00..0x3F, column by column. -/
theorem block0_flags (y z : Oct) : FollowsTable (opByte .q0 y z) w1 w2 s := by
  cases z
  case o0 | o2 | o3 | o6 => cases y <;> exact keepsF_flags rfl s
  case o1 =>
    cases y
    case o1 | o3 | o5 | o7 => exact addHL_flags s 1 _
    all_goals exact keepsF_flags rfl s
  case o4 =>
    have row : flagRow (opByte .q0 y .o4) w1 = ⟨.computed, .forced false, .computed, .kept⟩ := by cases y <;> rfl
    rw [FollowsTable, row, shapeOf_incColumn]
    exact inc_flags s 1 y
  case o5 =>
    have row : flagRow (opByte .q0 y .o5) w1 = ⟨.computed, .forced true, .computed, .kept⟩ := by cases y <;> rfl
    rw [FollowsTable, row, shapeOf_decColumn]
    exact dec_flags s 1 y
  case o7 =>
    cases y
    case o0 | o1 | o2 | o3 => exact rotA_flags s 1 _
    case o4 => exact daa_flags s 1
    case o5 => exact followsFlagRow_of_packFlags rfl ⟨rfl, rfl, rfl, rfl⟩
    case o6 => exact followsFlagRow_of_packFlags rfl ⟨rfl, rfl, rfl, rfl⟩
    case o7 => exact followsFlagRow_of_packFlags rfl ⟨rfl, rfl, rfl, trivial⟩

/-- Opcodes 0x40..0x7F: the loads and HALT leave F alone. -/
theorem block1_flags (y z : Oct) : FollowsTable (opByte .q1 y z) w1 w2 s := by
  cases y <;> cases z <;> exact keepsF_flags rfl s

/-- Opcodes 0x80..0xBF. -/
theorem block2_flags (y z : Oct) : FollowsTable (opByte .q2 y z) w1 w2 s := by
  have row : flagRow (opByte .q2 y z) w1 = aluFlagRow y := by cases y <;> cases z <;> rfl
  rw [FollowsTable, row, shapeOf_aluBlock]
  exact alu_operandOf_flags s 1 y z

/-- Opcodes 0xC0..0xFF but POP AF, column by column. -/
theorem block3_flags (y z : Oct) (notPopAF : ¬(y = .o6 ∧ z = .o1)) : FollowsTable (opByte .q3 y z) w1 w2 s := by
  cases z
  case o2 | o4 | o5 | o7 => cases y <;> exact keepsF_flags rfl s
  case o0 =>
    cases y
    case o5 | o7 => exact addSp_flags s 2 rfl _
    all_goals exact keepsF_flags rfl s
  case o1 =>
    cases y
    case o6 => exact absurd ⟨rfl, rfl⟩ notPopAF
    all_goals exact keepsF_flags rfl s
  case o3 =>
    cases y
    case o1 =>
      have shape : shapeOf (decodeWindow (opByte .q3 .o1 .o3) w1 w2) = cbShape w1 := shapeOf_decodeCb w1
      rw [FollowsTable, shape]
      exact cbShape_flags s w1
    all_goals exact keepsF_flags rfl s
  case o6 =>
    have row : flagRow (opByte .q3 y .o6) w1 = aluFlagRow y := by cases y <;> rfl
    rw [FollowsTable, row, shapeOf_aluColumn]
    exact alu_imm_flags s 2 y w1

end

/-- Every instruction but POP AF follows the table and keeps F's low nibble. -/
theorem followsTable (w0 w1 w2 : Byte) (s : State) (notPopAF : w0 ≠ 0xF1#8) : FollowsTable w0 w1 w2 s := by
  revert w0
  refine byte_by_fields _ fun x y z => ?_
  cases x
  case q0 => exact fun _ => block0_flags w1 w2 s y z
  case q1 => exact fun _ => block1_flags w1 w2 s y z
  case q2 => exact fun _ => block2_flags w1 w2 s y z
  case q3 =>
    refine fun notPopAF => block3_flags w1 w2 s y z ?_
    rintro ⟨rfl, rfl⟩
    exact notPopAF rfl

/-- Settles O57: POP AF by itself, whose row allows everything and whose mask clears the low nibble; every other instruction by
`followsTable`. -/
theorem flagsFollowTheSummaryTable : Obligations.FlagsFollowTheSummaryTable := by
  intro w0 w1 w2 s t h
  obtain rfl := Host.Outcome.next.inj ((exec_eq _ s).symm.trans h)
  by_cases popAF : w0 = 0xF1#8
  · subst popAF
    exact ⟨⟨trivial, trivial, trivial, trivial⟩, high_mask_low _⟩
  · rw [if_neg popAF]
    exact followsTable w0 w1 w2 s popAF

end Sys2Proof.Proofs
